-- ==== Sys2Proof/Word.lean ====
section
/-! DEFINITION. The word types of the Keldan 4120: bytes, 32-bit words and 64-bit host addresses. -/

namespace Sys2Proof

/-- One byte of host memory. -/
abbrev Byte := BitVec 8

/-- A 32-bit word: a register, a count a record reports, a free-running index. -/
abbrev Word := BitVec 32

/-- A 64-bit host address. -/
abbrev Addr := BitVec 64

/-- A 16-byte program step as the host writes it, byte 0 in bits 0-7 (section 11.5). -/
abbrev StepImage := BitVec 128

/-- The 96-byte body of a frame, byte 0 in bits 0-7 (section 11.3). -/
abbrev Body := BitVec 768

end Sys2Proof
end

