-- ==== Sys2Proof/Syntax.lean ====
section
/-! DEFINITION. The commands of the part: one constructor of `Instr` for each row of spec/opcode_table.json,
with the operands that the outside world gives with it. An operand `acc` is the access number under which the
part issued the host access whose outcome the command brings (log entry 3). -/

namespace Sys2Proof

/-- The three shared queues (R122). -/
inductive Queue where
  | request
  | done
  | spare
deriving DecidableEq, Repr

/-- The fields of a loop frame between its start delimiter and its check, in transmitted order; bits 40-47 are
sent as zero and not examined (section 11.11). -/
structure LoopFrame where
  /-- 1 COMMAND, 2 REPLY, 3 ATTENTION, 4 SYNC, 5 SWITCH. -/
  type : BitVec 3
  sequence : BitVec 3
  station : BitVec 6
  opClass : BitVec 2
  register : BitVec 6
  width : BitVec 2
  ack : Bool
  ready : Bool
  data : Word
deriving DecidableEq, Repr

/-- What the anchor read brings: bytes 00h-0Fh and 40h-11Fh of the anchor block (section 11.2), each part as one
number with its lowest byte in bits 0-7. -/
structure AnchorImage where
  low : BitVec 128
  high : BitVec 1792
deriving DecidableEq, Repr

/-- A command: an operation on the part or an event that reaches it. -/
inductive Instr where
  -- resets and engine commands (chapter 9)
  | powerOnReset
  | hostLinkReset
  | enable
  | quiesce
  | softReset
  -- register window
  | promptRequest
  | promptSpare
  | causeWrite (value : Word)
  | anchorWrite (high : Bool) (value : Word)
  | registerWrite (offset bytes : Nat) (value : Word)
  -- the anchor read (none: the Host Link reports it failed)
  | anchorReadOutcome (acc : Nat) (image : Option AnchorImage)
  -- Queue Unit (chapter 7; none: the compare-and-swap failed)
  | lockClaimOutcome (acc : Nat) (found : Option Word)
  | lockBackoffExpiry (q : Queue)
  | contentionPauseExpiry (q : Queue)
  | stallTimerExpiry (q : Queue)
  | headerReadOutcome (acc : Nat) (head tail count : Word)
  | linkReadOutcome (acc : Nat) (link : Word)
  | queueReadFail (acc : Nat)
  | lockReleaseOutcome (acc : Nat) (found : Option Word)
  -- request frames (chapter 8): the read of the TAKEN frame brings its kind, tag and body
  | frameReadFail (acc : Nat)
  | badKind (acc : Nat) (kind : Byte) (tag : BitVec 64) (body : Body)
  | loadProgram (acc : Nat) (tag : BitVec 64) (body : Body)
  | loadSourceArrival (acc : Nat) (image : StepImage)
  | loadSourceReadFail (acc : Nat)
  | run (acc : Nat) (tag : BitVec 64) (body : Body)
  | exchange (acc : Nat) (tag : BitVec 64) (body : Body)
  | startCadence (acc : Nat) (tag : BitVec 64) (body : Body)
  | stopCadence (acc : Nat) (tag : BitVec 64) (body : Body)
  | release (acc : Nat) (tag : BitVec 64) (body : Body)
  | survey (acc : Nat) (tag : BitVec 64) (body : Body)
  | reconfigure (acc : Nat) (tag : BitVec 64) (body : Body)
  | setAttention (acc : Nat) (tag : BitVec 64) (body : Body)
  | loopRestart (acc : Nat) (tag : BitVec 64) (body : Body)
  | queryStations (acc : Nat) (tag : BitVec 64) (body : Body)
  | queryLoop (acc : Nat) (tag : BitVec 64) (body : Body)
  | queryCadences (acc : Nat) (tag : BitVec 64) (body : Body)
  | queryHolds (acc : Nat) (tag : BitVec 64) (body : Body)
  | cancel (acc : Nat) (tag : BitVec 64) (body : Body)
  -- contexts (chapter 2): contexts 0-7 are the cadence contexts, 8 is A, 9 is B
  | inputWordArrival (acc : Nat) (word : Word)
  | inputReadFail (acc : Nat)
  | pauseExpiry (ctx : Fin 10)
  | awaitGapExpiry (ctx : Fin 10)
  -- Loop Port (chapters 3 and 4)
  | frameTransmitEnd
  | replyArrival (sequence : BitVec 3) (station : BitVec 6) (ack ready : Bool) (data : Word)
  | frameReturned (frame : LoopFrame)
  | badCheckFrame
  | attentionArrival (station : BitVec 6) (code : Word)
  | syncArrival (pattern : Word)
  | unexpectedTypeFrame
  | lineLoss
  | replyTimeout
  | quietTimerExpiry
  | syncTimerExpiry
  | syncQuietExpiry
  -- Cadence Unit (chapter 5)
  | cadenceLoopDownStop
  | settleTimerExpiry
  | cadenceTrigger (cadence : Fin 8)
  -- end of the resets
  | resetInputRelease
  | linkTrained
deriving DecidableEq, Repr

end Sys2Proof
end

