-- ==== Sys2Proof/Decode.lean ====
section
/-! DEFINITION. The command that a word spells by the bits of spec/opcode_table.json. No row of the table has bits: the
commands of this part are events and register accesses, not words of an instruction stream. -/

namespace Sys2Proof

/-- The command that `nbits` bits with value `w` spell: none, since the table gives no row any bits (log entry 30). -/
def decodeTableWord (_nbits _w : Nat) : Option Instr := none

end Sys2Proof
end

