-- ==== Sys2Proof/Config.lean ====
section
/-! DEFINITION. What the part fixes (its sizes and fixed intervals) and the free values: the choices that
the spec leaves open and the model leaves open with it. -/

namespace Sys2Proof.Config

/-- Locations of the program store (R1). -/
abbrev storeSize : Nat := 2048

/-- Places of the in-flight window (R48). -/
abbrev windowSize : Nat := 4

/-- Entries of the pending list (R148). -/
abbrev pendingSize : Nat := 16

/-- Free slots the taker needs before it begins a removal (R140). -/
abbrev takerReserve : Nat := 5

/-- Attempts of one try at a lock (R125, R127). -/
abbrev lockAttempts : Nat := 16

/-- The contention pause, in microseconds (R127). -/
abbrev contentionPause : Nat := 100

/-- The stall time, in microseconds (R128). -/
abbrev stallTime : Nat := 1000000

/-- One cadence unit, in microseconds (R87). -/
abbrev cadenceUnit : Nat := 50

/-- Grants the starvation guard lets pass (R52). -/
abbrev guardLimit : Nat := 8

/-- Attempts of one SYNCING (R62). -/
abbrev syncAttempts : Nat := 3

/-- A bound on the grants, walks and sends that one event can hold (log entry 19). -/
abbrev eventBound : Nat := 4294967296

/-- FREE VALUE. The `k`-th choice among things the spec lets happen in either order (R10, R124, R140, R152,
R160): only its remainder by the number of candidates is used. DESIGN CHOICE, log entry 5: nothing constrains
it; safe. -/
opaque choice : Nat → Nat

/-- FREE VALUE. The message-enable input at its `k`-th sample: the host sets it in the endpoint's configuration, and no row
of the table drives it (R170). DESIGN CHOICE, log entry 10: nothing constrains it; safe. -/
opaque messageInput : Nat → Bool

/-- FREE VALUE. The L_max and W_max that the result area of a RUN holds when it is ended in CHECKING, before its prepass has
computed them: R39 states no value. DESIGN CHOICE, log entry 36: nothing constrains them; safe. -/
opaque uncomputedBounds : Nat × Nat

/-- FREE VALUE. Whether an EXCHANGE whose step fails the step test and whose body outside the step is not zero
is refused BAD STEP (true) or BAD FIELD (false): R40 puts both at one check point and states no order.
DESIGN CHOICE, log entry 6: nothing constrains it; safe. -/
opaque exchangeStepFirst : Bool

end Sys2Proof.Config
end

