-- ==== Sys2Proof/Machine/State.lean ====
section
/-! DEFINITION. The state of the part as plain data: every register, record, list, timer, flag and pin that the
spec names, block by block, and the queue of commands that wait. A timer is `none` when stopped and `some n` when
running with `n` microseconds to go. -/

namespace Sys2Proof.Machine

open Sys2Proof

/-- A timer: stopped, or running with so many microseconds left (log entries 1 and 2). -/
abbrev Timer := Option Nat

/-! ### Program steps (chapter 1) -/

/-- Where a WRITE or CONTROL step takes its data (R3). -/
inductive DataSource where
  | inline (value : Word)
  | input
deriving DecidableEq, Repr

/-- The op class with the fields that only some classes use (R3). -/
inductive Access where
  | read
  | write (source : DataSource) (log : Bool)
  | control (source : DataSource) (log : Bool)
deriving DecidableEq, Repr

/-- Width of an exchange. -/
inductive Width where
  | w8
  | w16
  | w32
deriving DecidableEq, Repr

/-- Readiness mode (R27, R28, R29). -/
inductive Readiness where
  | accept
  | stop
  | await
deriving DecidableEq, Repr

/-- The fields an EXCHANGE or BLOCK step uses (R3). -/
structure Exchange where
  /-- 1-40. -/
  station : BitVec 6
  access : Access
  register : BitVec 6
  width : Width
  readiness : Readiness
  /-- on-error GO ON (true) or HALT (false). -/
  goOn : Bool
deriving DecidableEq, Repr

/-- A step that passes the step test (R3, R4). A VACANT location holds none. -/
inductive Step where
  | exchange (e : Exchange)
  | block (e : Exchange) (count : BitVec 16)
  | pause (count : BitVec 16)
  | mark (label : Word)
  | endStep
deriving DecidableEq, Repr

/-- A hold: first and last step of a bound program; its owner is its place in the hold list (R11). -/
structure Hold where
  first : Nat
  last : Nat
deriving DecidableEq, Repr

/-- The load in progress: its frame's slot, the load range, the steps written and the access that reads the
source (R7, R10). -/
structure Load where
  slot : Fin 40
  dest : Nat
  count : Nat
  written : Nat
  acc : Nat
deriving DecidableEq, Repr

/-- The Program Store (R1). `steps` lists the locations that are not VACANT, indices strictly rising. -/
structure Store where
  steps : List (Nat × Step)
  holds : Vector (Option Hold) 10
  load : Option Load
deriving DecidableEq, Repr

/-! ### Contexts (chapter 2) -/

/-- A context: 0-7 are the cadence contexts, 8 is request context A and 9 is B. -/
abbrev CtxId := Fin 10

/-- Context states (R18). -/
inductive CtxState where
  | idle
  | checking
  | issuing
  | awaitingReply
  | backingOff
  | paused
deriving DecidableEq, Repr

/-- What a context is bound to. -/
inductive Job where
  | none
  | cadence
  | run
  | exchange
  | survey
deriving DecidableEq, Repr

/-- Why a context is to end early (R42). -/
inductive CancelCause where
  | cancel
  | quiesce
  | stop
deriving DecidableEq, Repr

/-- Step errors (R32). -/
inductive StepError where
  | refused
  | noStation
  | loopLost
  | checkFail
  | readyTimeout
  | bypassed
  | loopDown
  | inputFault
deriving DecidableEq, Repr

/-- The first-failing fields: step index, error and station (R32). -/
structure Failing where
  step : Nat
  error : StepError
  station : BitVec 6
deriving DecidableEq, Repr

/-- The counts a SURVEY keeps for its done record (R77). -/
structure SurveyCounts where
  probed : Nat
  present : Nat
  absent : Nat
  skipped : Nat
  unresolved : Nat
deriving DecidableEq, Repr

/-- A context record (R17), with what the rules of chapters 2 and 4 say the context keeps besides. -/
structure Context where
  state : CtxState
  job : Job
  /-- The custody slot of the request (request contexts), or the cadence number (cadence contexts). -/
  owner : Fin 40
  runSequence : Word
  step : Nat
  element : Nat
  remaining : Nat
  /-- The fetched step's fields, or the probe's (R21, R75). -/
  elem : Exchange
  retries : Nat
  /-- Ready-wait elapsed in microseconds, and whether it has started (R30). -/
  readyWait : Nat
  readyOn : Bool
  cancel : Option CancelCause
  outCursor : Addr
  outLimit : Addr
  inCursor : Addr
  inLimit : Addr
  held : Option Word
  attempts : Nat
  entries : Nat
  words : Nat
  shortSteps : Nat
  continued : Nat
  shortPending : Bool
  failing : Option Failing
  /-- The pause or the await gap (R21, R29). -/
  timer : Timer
  /-- The input read outstanding (R22). -/
  inputRead : Option Nat
  /-- A RUN's L_max and W_max, kept for its done record (R38). -/
  lmax : Nat
  wmax : Nat
  /-- The last accepted reply, for an EXCHANGE's result area (R41). -/
  lastData : Word
  lastAck : Bool
  lastReady : Bool
  counts : SurveyCounts
deriving DecidableEq, Repr

/-! ### Loop Port (chapters 3 and 4) -/

/-- Loop states (R46). -/
inductive LoopState where
  | down
  | syncing
  | opened
  | draining
  | switching
  | settling
  | quiet
deriving DecidableEq, Repr

/-- Who was granted a frame of the window (R48). -/
inductive Owner where
  | context (i : CtxId)
  | reconfigure
deriving DecidableEq, Repr

/-- A window record (R48). The send time and the reply deadline are set at the end of the transmission. -/
structure InFlight where
  sequence : BitVec 3
  owner : Owner
  frame : LoopFrame
  sendTime : Option Word
  deadline : Option Word
deriving DecidableEq, Repr

/-- What the loop goes to after QUIET (R60, R61). -/
inductive AfterQuiet where
  | syncing
  | switching
deriving DecidableEq, Repr

/-- A station's outcome in a RECONFIGURE (R83). -/
inductive Outcome40 where
  | unlisted
  | switched
  | already
  | refused
  | noStation
  | notDone
deriving DecidableEq, Repr

/-- The loop operation record of a RECONFIGURE (section 4.4). -/
structure Reconfigure where
  slot : Fin 40
  bypass : BitVec 64
  restore : BitVec 64
  /-- The station being switched, 1-40, or 0. -/
  current : Nat
  retries : Nat
  /-- Whether the current station's SWITCH has been sent before (R83). -/
  resent : Bool
  outcomes : Vector Outcome40 40
  sent : Nat
  /-- The station whose SWITCH met a timeout, or 0 (R85). -/
  timedOut : Nat
deriving DecidableEq, Repr

/-- The loop operation field (R65). -/
inductive LoopOp where
  | restart (slot : Fin 40)
  | reconfigure (r : Reconfigure)
deriving DecidableEq, Repr

/-- The eight statistics counters (R68). -/
structure Stats where
  framesSent : Word
  repliesAccepted : Word
  checkFailures : Word
  sequenceFaults : Word
  replyTimeouts : Word
  recoveries : Word
  attentionsReceived : Word
  attentionsMerged : Word
deriving DecidableEq, Repr

/-- The receiver's place in the incoming bits (R182). -/
inductive Framing where
  /-- Between frames: the bits so far since the last frame's end are ones; whether there is one. -/
  | between (one : Bool)
  /-- After the first zero: the delimiter's bits so far, newest lowest, and how many are still to come. -/
  | opening (bits : BitVec 16) (left : Nat)
  /-- After the delimiter: the bits so far, newest first, and how many are still to come. -/
  | inside (bits : List Bool) (left : Nat)
  /-- Framing lost: the last sixteen bits, and how many bits have been seen. -/
  | lost (last : BitVec 16) (seen : Nat)
deriving DecidableEq, Repr

/-- The Loop Port (R46). -/
structure LoopPort where
  state : LoopState
  window : List InFlight
  sequence : BitVec 3
  lastCadence : Fin 8
  /-- Last request granted: B (true) or A (false). -/
  lastRequestB : Bool
  guard : Nat
  op : Option LoopOp
  afterQuiet : AfterQuiet
  attempt : Nat
  quietTimer : Timer
  settleTimer : Timer
  syncTimer : Timer
  lineLoss : Bool
  /-- The receiver's place after the last frame or line loss that it reported, or after a reset (R182; log entry 26). -/
  receiver : Framing
  stats : Stats
  /-- The frame the transmitter is sending (R47). -/
  transmitting : Option LoopFrame
  /-- In SYNCING: an attempt waits for its SYNC (R54, R62). -/
  syncWaits : Bool
  /-- A SYNC or SWITCH frame is due and waits for the transmitter (R47, R62, R82). -/
  sendDue : Bool
deriving DecidableEq, Repr

/-- Station states (R72). -/
inductive StationState where
  | unknown
  | present
  | absent
  | bypassed
deriving DecidableEq, Repr

/-- A station record (R72). -/
structure Station where
  state : StationState
  attention : Bool
  ident : Word
deriving DecidableEq, Repr

/-! ### Cadences and attentions (chapters 5 and 6) -/

/-- Cadence states (R88). -/
inductive CadState where
  | idle
  | waiting
  | running
  | stopping
deriving DecidableEq, Repr

/-- Stop reasons (R87). -/
inductive StopReason where
  | none
  | requested
  | missed
  | lagging
  | loopDown
  | quiesced
deriving DecidableEq, Repr

/-- A cadence record (R87). -/
structure Cadence where
  state : CadState
  programStart : BitVec 16
  lmax : Word
  period : Word
  phase : Word
  ringBase : Addr
  ringSize : Word
  interval : Word
  missLimit : Byte
  p : Word
  c : Word
  nextBoundary : Word
  outstanding : Bool
  owed : Bool
  consecutive : Word
  overlapMisses : Word
  spaceMisses : Word
  runsStarted : Word
  runsFailed : Word
  runSequence : Word
  reason : StopReason
  /-- The custody slot of the START CADENCE frame. -/
  startSlot : Fin 40
  trigger : Timer
  /-- The Loop Port has told of DOWN and the Cadence Unit has not yet taken it (R64, R106; log entry 14). -/
  downNotice : Bool
deriving DecidableEq, Repr

/-- An attention entry (R109). -/
structure Attention where
  station : BitVec 6
  firstCode : Word
  lastCode : Word
  repeats : Byte
  arrival : Word
  held : Bool
deriving DecidableEq, Repr

/-- The notice engine (R114). -/
structure NoticeEngine where
  removing : Bool
  promptSeen : Bool
  episode : Bool
deriving DecidableEq, Repr

/-! ### Queue Unit (chapter 7) -/

/-- Fault codes (R165). -/
inductive FaultCode where
  | none
  | anchorBad
  | queueDamaged
  | hostReadFault
  | lockReleaseFault
deriving DecidableEq, Repr

/-- A fault about to be raised: its code and its 18-bit detail (section 11.10). -/
structure PendingFault where
  code : FaultCode
  detail : BitVec 18
deriving DecidableEq, Repr

/-- Phase of an operation (R125); HOLDING says which read is outstanding. -/
inductive Phase where
  | claiming (acc : Nat)
  | deferred
  | backingOff
  | paused
  | readingHeader (acc : Nat)
  | readingLink (acc : Nat) (head tail count : Word)
  | releasing
deriving DecidableEq, Repr

/-- An operation of the Queue Unit (R125). `frame` is the frame to insert, 0 for a removal. -/
structure QueueOp where
  phase : Phase
  attempt : Nat
  /-- Backoff or contention pause (R127). -/
  timer : Timer
  stall : Timer
  stalled : Bool
  frame : Nat
deriving DecidableEq, Repr

/-- The lock the part holds or is releasing: the release's access number once issued, and the fault that
follows it (R129, R133, R134). -/
structure Lock where
  queue : Queue
  release : Option Nat
  fault : Option PendingFault
deriving DecidableEq, Repr

/-- The Queue Unit (R125). -/
structure QueueUnit where
  request : Option QueueOp
  done : Option QueueOp
  spare : Option QueueOp
  lock : Option Lock
deriving DecidableEq, Repr

/-! ### Intake (chapter 8) -/

/-- Slot states (R139). -/
inductive SlotState where
  | taken
  | pending
  | running
  | cadence
  | loopOp
  | ready
deriving DecidableEq, Repr

/-- The request record: kind, tag and body as the dispatcher read them (R138, R144). -/
structure Record where
  kind : Byte
  tag : BitVec 64
  body : Body
deriving DecidableEq, Repr

/-- An occupied custody slot (R138). `readAcc` is the frame read outstanding (R144). -/
structure Slot where
  index : Nat
  /-- origin SPARE (true) or REQUEST (false). -/
  spare : Bool
  state : SlotState
  record : Option Record
  readyNumber : Word
  readAcc : Option Nat
deriving DecidableEq, Repr

/-- Taker states (R141). -/
inductive TakerState where
  | idle
  | looking
  | dispatching
  | asleep
  | blocked
deriving DecidableEq, Repr

/-- Intake: custody table, pending list, taker, ready counter and poster (R138, R141, R148, R152, R154). -/
structure Intake where
  custody : Vector (Option Slot) 40
  pendingList : List (Fin 40)
  taker : TakerState
  promptSeen : Bool
  readyCounter : Word
  posting : Option (Fin 40)
deriving DecidableEq, Repr

/-! ### Engine Control and the Host Link (chapter 9) -/

/-- Engine states (R157). -/
inductive EngineState where
  | stopped
  | starting
  | running
  | quiescing
  | faulted
deriving DecidableEq, Repr

/-- A permitted window entry (section 11.2). -/
structure PermittedWindow where
  base : Nat
  length : Nat
  readWrite : Bool
  valid : Bool
deriving DecidableEq, Repr

/-- The cached anchor configuration (R121, R156). The ready-wait limit is in milliseconds, the other intervals in
microseconds. -/
structure AnchorConfig where
  arenaBase : Addr
  frameCount : Word
  windows : List PermittedWindow
  replyTimeout : Nat
  readyWaitLimit : Nat
  awaitGap : Nat
  retryLimit : Nat
  settleInterval : Nat
deriving DecidableEq, Repr

/-- Engine Control (R156) and the message-enable input of the endpoint (R170). -/
structure Engine where
  state : EngineState
  faultCode : FaultCode
  faultDetail : BitVec 18
  /-- bit 0 DONE, 1 FAULT, 2 STALL, 3 SPARES. -/
  causes : BitVec 4
  config : AnchorConfig
  timeBase : Word
  anchorLow : Word
  anchorHigh : Word
  messageEnable : Bool
  /-- The anchor read outstanding (R158). -/
  anchorRead : Option Nat
deriving DecidableEq, Repr

/-- What the part issues, in the order in which it issues it (R123; log entry 4). -/
inductive Issue where
  /-- A posted write of these bytes from this host address upwards. -/
  | write (address : Addr) (bytes : List Byte)
  /-- A read of `bytes` bytes. -/
  | read (acc : Nat) (address : Addr) (bytes : Nat)
  /-- The anchor read: 00h-0Fh and 40h-11Fh from this address (R158). -/
  | readAnchor (acc : Nat) (address : Addr)
  /-- A compare-and-swap on a lock word. -/
  | compareSwap (acc : Nat) (address : Addr) (expect write : Word)
  /-- The interrupt message (R170). -/
  | message
  /-- The transmitter begins to send this loop frame (R47). -/
  | frame (f : LoopFrame)
deriving DecidableEq, Repr

/-- The Host Link's and the transmitter's output, and the number the next non-posted access takes. -/
structure Link where
  nextAcc : Nat
  issued : List Issue
deriving DecidableEq, Repr

/-- The endpoint's inputs: those that say whether the register window answers (R164), and how often the message-enable
input has been sampled (R170; log entry 10). -/
structure Pins where
  resetAsserted : Bool
  linkTrained : Bool
  samples : Nat
deriving DecidableEq, Repr

/-- The whole part. -/
structure State where
  pending : List Instr
  engine : Engine
  store : Store
  contexts : Vector Context 10
  loop : LoopPort
  stations : Vector Station 40
  cadences : Vector Cadence 8
  attention : List Attention
  notice : NoticeEngine
  queues : QueueUnit
  intake : Intake
  link : Link
  pins : Pins
  choices : Nat
deriving DecidableEq, Repr

/-- No command of this part stops it with a fault of the model: the part's own faults are state (R165). The type
is empty: nothing raises it; safe. -/
inductive Fault where
deriving DecidableEq, Repr

/-- Why the model has no meaning for a command. -/
inductive Refusal where
  /-- Raised by `exec` alone, for a command that has no meaning in the model yet; safe. -/
  | notModelled (mnemonic : String)
deriving DecidableEq, Repr

/-! ### Reset values -/

/-- The exchange fields a zeroed context record holds; DESIGN CHOICE (log entry 16): read only after a step has
been fetched. -/
def Exchange.zero : Exchange :=
  { station := 0, access := .read, register := 0, width := .w8, readiness := .accept, goOn := false }

/-- A context record after reset: IDLE with every other field zero (R17). -/
def Context.zero : Context :=
  { state := .idle, job := .none, owner := 0, runSequence := 0, step := 0, element := 0, remaining := 0,
    elem := Exchange.zero, retries := 0, readyWait := 0, readyOn := false, cancel := none,
    outCursor := 0, outLimit := 0, inCursor := 0, inLimit := 0, held := none, attempts := 0,
    entries := 0, words := 0, shortSteps := 0, continued := 0, shortPending := false, failing := none,
    timer := none, inputRead := none, lmax := 0, wmax := 0, lastData := 0, lastAck := false,
    lastReady := false,
    counts := { probed := 0, present := 0, absent := 0, skipped := 0, unresolved := 0 } }

/-- All eight counters zero (R68). -/
def Stats.zero : Stats :=
  { framesSent := 0, repliesAccepted := 0, checkFailures := 0, sequenceFaults := 0, replyTimeouts := 0,
    recoveries := 0, attentionsReceived := 0, attentionsMerged := 0 }

/-- The Loop Port after power-on, host-link reset or SOFT RESET (R46). -/
def LoopPort.afterReset : LoopPort :=
  { state := .down, window := [], sequence := 0, lastCadence := 7, lastRequestB := true, guard := 0,
    op := none, afterQuiet := .syncing, attempt := 0, quietTimer := none, settleTimer := none,
    syncTimer := none, lineLoss := false, receiver := .between false, stats := Stats.zero, transmitting := none,
    syncWaits := false, sendDue := false }

/-- A station record after power-on or host-link reset (R72). -/
def Station.afterReset : Station := { state := .unknown, attention := true, ident := 0 }

/-- A cadence record after reset: IDLE, every field zero, stop reason none, timer stopped (R87). -/
def Cadence.zero : Cadence :=
  { state := .idle, programStart := 0, lmax := 0, period := 0, phase := 0, ringBase := 0, ringSize := 0,
    interval := 0, missLimit := 0, p := 0, c := 0, nextBoundary := 0, outstanding := false, owed := false,
    consecutive := 0, overlapMisses := 0, spaceMisses := 0, runsStarted := 0, runsFailed := 0,
    runSequence := 0, reason := .none, startSlot := 0, trigger := none, downNotice := false }

/-- The notice engine after reset (R114). -/
def NoticeEngine.afterReset : NoticeEngine := { removing := false, promptSeen := false, episode := false }

/-- The Queue Unit after reset (R125). -/
def QueueUnit.afterReset : QueueUnit := { request := none, done := none, spare := none, lock := none }

/-- Intake after reset (R138, R141, R148, R152, R154). -/
def Intake.afterReset : Intake :=
  { custody := Vector.replicate 40 none, pendingList := [], taker := .idle, promptSeen := false,
    readyCounter := 0, posting := none }

/-- The cached anchor configuration after reset: zero (R156). -/
def AnchorConfig.zero : AnchorConfig :=
  { arenaBase := 0, frameCount := 0, windows := [], replyTimeout := 0, readyWaitLimit := 0, awaitGap := 0,
    retryLimit := 0, settleInterval := 0 }

/-- Engine Control after power-on reset (R156, R170). -/
def Engine.afterReset : Engine :=
  { state := .stopped, faultCode := .none, faultDetail := 0, causes := 0, config := AnchorConfig.zero,
    timeBase := 0, anchorLow := 0, anchorHigh := 0, messageEnable := false, anchorRead := none }

/-- The part right after power-on reset, the reset input released and the link trained (R164; log entry 9). -/
def State.reset : State :=
  { pending := [],
    engine := Engine.afterReset,
    store := { steps := [], holds := Vector.replicate 10 none, load := none },
    contexts := Vector.replicate 10 Context.zero,
    loop := LoopPort.afterReset,
    stations := Vector.replicate 40 Station.afterReset,
    cadences := Vector.replicate 8 Cadence.zero,
    attention := [],
    notice := NoticeEngine.afterReset,
    queues := QueueUnit.afterReset,
    intake := Intake.afterReset,
    link := { nextAcc := 0, issued := [] },
    pins := { resetAsserted := false, linkTrained := true, samples := 0 },
    choices := 0 }

end Sys2Proof.Machine
end

