-- ==== Sys2Proof/Machine/Bytes.lean ====
section
/-! DEFINITION. Little-endian bytes and fields of records (R180), saturating and wrapping counts, and the free
order in which things that may come in either order are taken. -/

namespace Sys2Proof.Machine

open Sys2Proof

/-- The `n` bytes of a number, least significant first (R180). -/
def le : Nat → Nat → List Byte
  | 0, _ => []
  | n + 1, v => BitVec.ofNat 8 v :: le n (v / 256)

/-- `n` zero bytes. -/
def zeros (n : Nat) : List Byte := List.replicate n 0

/-- A word as its four bytes. -/
def le32 (w : Word) : List Byte := le 4 w.toNat

/-- The byte at a byte offset of a record. -/
def u8 {w : Nat} (b : BitVec w) (offset : Nat) : Byte := b.extractLsb' (8 * offset) 8

/-- The 16-bit field at a byte offset. -/
def u16 {w : Nat} (b : BitVec w) (offset : Nat) : BitVec 16 := b.extractLsb' (8 * offset) 16

/-- The 32-bit field at a byte offset. -/
def u32 {w : Nat} (b : BitVec w) (offset : Nat) : Word := b.extractLsb' (8 * offset) 32

/-- The 64-bit field at a byte offset. -/
def u64 {w : Nat} (b : BitVec w) (offset : Nat) : BitVec 64 := b.extractLsb' (8 * offset) 64

/-- Whether `n` bytes from an offset are all zero (R180). -/
def zeroAt {w : Nat} (b : BitVec w) (offset n : Nat) : Bool := b.extractLsb' (8 * offset) (8 * n) == 0

/-- A count that saturates at its maximum (R68, R87). -/
def satInc (w : Word) : Word := if w = BitVec.allOnes 32 then w else w + 1

/-- A number as one bit's byte value. -/
def bit (b : Bool) : Nat := if b then 1 else 0

/-- Apply a function to every element of a table. -/
def mapTable {α β : Type} {n : Nat} (f : α → β) (v : Vector α n) : Vector β n :=
  ⟨⟨v.toList.map f⟩, by simp⟩

/-- The elements of `l` in a free order: with `n` at least its length, the choices from number `k` on say which
comes next (log entry 5). Of fewer than two elements there is nothing to choose. -/
def arrange {α : Type} : Nat → Nat → List α → List α
  | 0, _, l => l
  | _ + 1, _, [] => []
  | _ + 1, _, [x] => [x]
  | n + 1, k, x :: y :: l =>
    let j := Config.choice k % (l.length + 2)
    ((x :: y :: l)[j]?.getD x) :: arrange n (k + 1) ((x :: y :: l).eraseIdx j)

/-- The elements of `l` in a free order, with the choices of this state. -/
def freeOrder {α : Type} (s : State) (l : List α) : List α := arrange l.length s.choices l

/-- The elements of `l` in a free order that keeps what `ahead` puts ahead, with the number of the next choice: each that comes
next is a free one of those that nothing left is ahead of (log entry 5). The first argument bounds the elements. -/
def arrangeBy {α : Type} [BEq α] (ahead : α → α → Bool) : Nat → Nat → List α → List α × Nat
  | 0, k, l => (l, k)
  | n + 1, k, l =>
    let first := l.filter fun x => l.all fun y => !ahead y x
    match arrange first.length k first with
    | [] => (l, k)
    | x :: _ =>
      let r := arrangeBy ahead n (k + (first.length - 1)) (l.erase x)
      (x :: r.1, r.2)

/-- The choices that ordering `l` has used. -/
def State.chose {α : Type} (s : State) (l : List α) : State := { s with choices := s.choices + (l.length - 1) }

end Sys2Proof.Machine
end

