-- ==== Sys2Proof/Machine/Program.lean ====
section
/-! DEFINITION. Program steps: the step test with the step it yields (R3, R4), the layout of a step (section 11.5),
the program store (R1, R5), the prepass with its two bounds (R13, R14), and when a load range meets a hold (R12). -/

namespace Sys2Proof.Machine

open Sys2Proof

/-- Width codes (section 11.5). -/
def Width.code : Width → BitVec 2
  | .w8 => 1
  | .w16 => 2
  | .w32 => 3

/-- The bits of a width. -/
def Width.bits : Width → Nat
  | .w8 => 8
  | .w16 => 16
  | .w32 => 32

/-- A value limited to a width and zero-extended (R26). -/
def Width.limit (w : Width) (v : Word) : Word := BitVec.ofNat 32 (v.toNat % 2 ^ w.bits)

/-- Op class codes (section 11.5). -/
def Access.code : Access → BitVec 2
  | .read => 1
  | .write _ _ => 2
  | .control _ _ => 3

/-- Whether elements of the step take the next input word (R3). -/
def Access.isInput : Access → Bool
  | .write .input _ => true
  | .control .input _ => true
  | _ => false

/-- Whether a completed or failed element produces an entry: READ always, WRITE and CONTROL with log flag 1
(R3, R26, R33). -/
def Access.logged : Access → Bool
  | .read => true
  | .write _ log => log
  | .control _ log => log

/-- Whether the bits of a value above the width are zero (R4). -/
def Width.fits (w : Width) (v : Word) : Bool := w.limit v == v

/-- The width a code names. -/
def Width.ofCode (b : Byte) : Option Width :=
  if b = 1 then some .w8 else if b = 2 then some .w16 else if b = 3 then some .w32 else none

/-- The readiness mode a code names. -/
def Readiness.ofCode (b : Byte) : Option Readiness :=
  if b = 1 then some .accept else if b = 2 then some .stop else if b = 3 then some .await else none

/-- Readiness mode codes. -/
def Readiness.code : Readiness → Byte
  | .accept => 1
  | .stop => 2
  | .await => 3

/-- A bit a byte encodes: 0 or 1. -/
def flagOf (b : Byte) : Option Bool := if b = 0 then some false else if b = 1 then some true else none

/-- The data source a WRITE or CONTROL step names: an inline value within the width, or INPUT with the inline
value zero (R3, R4). -/
def DataSource.ofCode (w : Width) (b : Byte) (v : Word) : Option DataSource :=
  if b = 1 then (if w.fits v then some (.inline v) else none)
  else if b = 2 then (if v = 0 then some .input else none)
  else none

/-- The op class with its data source, log flag and inline value (R3, R4). -/
def Access.ofCode (w : Width) (op source log : Byte) (v : Word) : Option Access :=
  if op = 1 then (if source = 0 ∧ log = 0 ∧ v = 0 then some .read else none)
  else if op = 2 then do return .write (← DataSource.ofCode w source v) (← flagOf log)
  else if op = 3 then do return .control (← DataSource.ofCode w source v) (← flagOf log)
  else none

/-- The fields of an EXCHANGE or BLOCK step, each a named value within its range (R4). -/
def Exchange.ofImage (b : StepImage) : Option Exchange := do
  let station := u8 b 0x01
  let register := u8 b 0x03
  if station.toNat < 1 ∨ 40 < station.toNat ∨ 63 < register.toNat then none
  let width ← Width.ofCode (u8 b 0x04)
  let readiness ← Readiness.ofCode (u8 b 0x05)
  let goOn ← flagOf (u8 b 0x06)
  let access ← Access.ofCode width (u8 b 0x02) (u8 b 0x07) (u8 b 0x08) (u32 b 0x0C)
  return { station := station.setWidth 6, access, register := register.setWidth 6, width, readiness, goOn }

/-- The step test (R4): the step that a valid 16-byte step is, or none. -/
def Step.ofImage (b : StepImage) : Option Step :=
  let kind := u8 b 0x00
  let count := u16 b 0x0A
  if u8 b 0x09 ≠ 0 then none
  else if kind = 1 then (if count = 0 then (Exchange.ofImage b).map .exchange else none)
  else if kind = 2 then (if count = 0 then none else (Exchange.ofImage b).map (.block · count))
  else if kind = 3 then
    (if zeroAt b 0x01 8 ∧ count ≠ 0 ∧ u32 b 0x0C = 0 then some (.pause count) else none)
  else if kind = 4 then (if zeroAt b 0x01 8 ∧ count = 0 then some (.mark (u32 b 0x0C)) else none)
  else if kind = 5 then (if zeroAt b 0x01 8 ∧ count = 0 ∧ u32 b 0x0C = 0 then some .endStep else none)
  else none

/-- The data source and inline value bytes of a step. -/
def DataSource.codes : DataSource → Byte × Word
  | .inline v => (1, v)
  | .input => (2, 0)

/-- Data source byte, log byte and inline value of an op class. -/
def Access.codes : Access → Byte × Bool × Word
  | .read => (0, false, 0)
  | .write d log => (d.codes.1, log, d.codes.2)
  | .control d log => (d.codes.1, log, d.codes.2)

/-- The 16 bytes of a step from its byte fields, lowest offset first (section 11.5). -/
def packStep (kind station op register width readiness onError source log : Byte) (count : BitVec 16)
    (value : Word) : StepImage :=
  value ++ count ++ (0#8) ++ log ++ source ++ onError ++ readiness ++ width ++ register ++ op ++ station ++ kind

/-- The 16 bytes of an EXCHANGE or BLOCK step. -/
def Exchange.toImage (kind : Byte) (e : Exchange) (count : BitVec 16) : StepImage :=
  let a := e.access.codes
  packStep kind (e.station.setWidth 8) (e.access.code.setWidth 8) (e.register.setWidth 8)
    (e.width.code.setWidth 8) e.readiness.code (BitVec.ofNat 8 (bit e.goOn)) a.1 (BitVec.ofNat 8 (bit a.2.1))
    count a.2.2

/-- The 16 bytes of a step (section 11.5). -/
def Step.toImage : Step → StepImage
  | .exchange e => e.toImage 1 0
  | .block e count => e.toImage 2 count
  | .pause count => packStep 3 0 0 0 0 0 0 0 0 count 0
  | .mark label => packStep 4 0 0 0 0 0 0 0 0 0 label
  | .endStep => packStep 5 0 0 0 0 0 0 0 0 0 0

/-- Whether an inline value stays within the step's width (R4). -/
def Exchange.wf (e : Exchange) : Bool :=
  decide (1 ≤ e.station.toNat ∧ e.station.toNat ≤ 40) &&
    match e.access with
    | .write (.inline v) _ => e.width.fits v
    | .control (.inline v) _ => e.width.fits v
    | _ => true

/-- Whether a step's fields lie within their ranges (R4). -/
def Step.wf : Step → Bool
  | .exchange e => e.wf
  | .block e count => e.wf && count != 0
  | .pause count => count != 0
  | .mark _ => true
  | .endStep => true

/-! ### The store -/

/-- The step at a location, none when VACANT (R1, R5). -/
def fetchStep : List (Nat × Step) → Nat → Option Step
  | [], _ => none
  | (j, st) :: l, i => if i = j then some st else fetchStep l i

/-- Write a step into its location, keeping indices strictly rising (R7). -/
def writeStep : List (Nat × Step) → Nat → Step → List (Nat × Step)
  | [], i, st => [(i, st)]
  | (j, st') :: l, i, st =>
    if i < j then (i, st) :: (j, st') :: l
    else if i = j then (i, st) :: l
    else (j, st') :: writeStep l i st

/-- The canonical form of the store: indices strictly rising and below 2048 (R1). -/
def Store.wf (s : Store) : Bool :=
  decide ((s.steps.map Prod.fst).Pairwise (· < ·)) && s.steps.all (fun e => decide (e.1 < Config.storeSize))

/-! ### The prepass -/

/-- What a prepass hands to its requester (R13, R15). -/
inductive Prepass where
  | complete (last lmax wmax : Nat)
  | vacant (index : Nat)
  | noEnd (index : Nat)
deriving DecidableEq, Repr

/-- What one step adds to L_max (R14). -/
def Step.entries : Step → Nat
  | .exchange e => if e.access.logged then 1 else 0
  | .block e count => if e.access.logged then count.toNat else 0
  | .mark _ => 1
  | .pause _ => 0
  | .endStep => 0

/-- What one step adds to W_max (R14). -/
def Step.inputs : Step → Nat
  | .exchange e => if e.access.isInput then 1 else 0
  | .block e count => if e.access.isInput then count.toNat else 0
  | _ => 0

/-- The walk from a location upwards, with the bounds found so far (R13, R14); the first argument bounds the
locations left to examine. -/
def walkSteps (steps : List (Nat × Step)) : Nat → Nat → Nat → Nat → Prepass
  | 0, i, _, _ => .noEnd (i - 1)
  | n + 1, i, l, w =>
    match fetchStep steps i with
    | none => .vacant i
    | some .endStep => .complete i l w
    | some st => walkSteps steps n (i + 1) (l + st.entries) (w + st.inputs)

/-- The prepass of a start index for a RUN binding (R13, R14). -/
def prepass (s : Store) (start : Nat) : Prepass := walkSteps s.steps (Config.storeSize - start) start 0 0

/-! ### Holds and loads -/

/-- Whether a location lies inside some hold. -/
def Store.heldAt (s : Store) (i : Nat) : Bool :=
  s.holds.toList.any fun h => match h with
    | some h => decide (h.first ≤ i ∧ i ≤ h.last)
    | none => false

/-- The lowest index of a load range that lies inside some hold, none when the range meets no hold (R6, R12). -/
def Store.meets (s : Store) (dest count : Nat) : Option Nat :=
  ((List.range count).map (dest + ·)).find? s.heldAt

end Sys2Proof.Machine
end

