-- ==== Sys2Proof/Machine/Ops.lean ====
section
/-! DEFINITION. The shared operations over the state: reading and replacing one record of a table, issuing host
accesses and the interrupt message, setting causes, raising an engine fault, taking frames into custody and
finishing them, and placing and removing holds. -/

namespace Sys2Proof.Machine

open Sys2Proof

/-! ### Records of the tables -/

/-- Context `i`. -/
def State.ctx (s : State) (i : CtxId) : Context := s.contexts[i]

/-- Replace context `i`. -/
def State.setCtx (s : State) (i : CtxId) (c : Context) : State := { s with contexts := s.contexts.set i c }

/-- Cadence `n`. -/
def State.cad (s : State) (n : Fin 8) : Cadence := s.cadences[n]

/-- Replace cadence `n`. -/
def State.setCad (s : State) (n : Fin 8) (c : Cadence) : State := { s with cadences := s.cadences.set n c }

/-- The place of a station address in the Station Table; addresses outside 1-40 have none (R72). -/
def stationPlace (a : Nat) : Option (Fin 40) := if h : 1 ≤ a ∧ a ≤ 40 then some ⟨a - 1, by omega⟩ else none

/-- The record of a station address. An address outside 1-40 has none and reads as after reset; no step and no
SWITCH names one (R4, R79). -/
def State.station (s : State) (a : Nat) : Station :=
  match stationPlace a with
  | some p => s.stations[p]
  | none => Station.afterReset

/-- Change the record of a station address (R72); nothing for an address outside 1-40. -/
def State.modStation (s : State) (a : Nat) (f : Station → Station) : State :=
  match stationPlace a with
  | some p => { s with stations := s.stations.set p (f s.stations[p]) }
  | none => s

/-- Custody slot `i`. -/
def State.slot (s : State) (i : Fin 40) : Option Slot := s.intake.custody[i]

/-- Replace custody slot `i`. -/
def State.setSlot (s : State) (i : Fin 40) (x : Option Slot) : State :=
  { s with intake := { s.intake with custody := s.intake.custody.set i x } }

/-- Change the state of an occupied slot (R139). -/
def State.setSlotState (s : State) (i : Fin 40) (st : SlotState) : State :=
  match s.slot i with
  | some x => s.setSlot i (some { x with state := st })
  | none => s

/-- The cadence of a cadence context. -/
def cadenceOf (i : CtxId) : Option (Fin 8) := if h : i.val < 8 then some ⟨i.val, h⟩ else none

/-- The context of a cadence (R17). -/
def contextOf (n : Fin 8) : CtxId := ⟨n.val, by omega⟩

/-- Request context A. -/
abbrev ctxA : CtxId := 8

/-- Request context B. -/
abbrev ctxB : CtxId := 9

/-- Whether the engine carries on work (R157). -/
def State.active (s : State) : Bool := s.engine.state == .running || s.engine.state == .quiescing

/-- Whether a command other than a reset or a register access can act: the part is not held in reset and not
FAULTED (R46, R164, R165). -/
def State.live (s : State) : Bool := !s.pins.resetAsserted && s.engine.state != .faulted

/-- Whether the register window answers (R164; log entry 9). -/
def State.windowAnswers (s : State) : Bool := !s.pins.resetAsserted && s.pins.linkTrained

/-! ### Issuing (R123) -/

/-- Issue one thing behind everything issued before it (R123). -/
def State.issue (s : State) (x : Issue) : State := { s with link := { s.link with issued := s.link.issued ++ [x] } }

/-- Issue a posted write; of no bytes, nothing is issued. -/
def State.post (s : State) (a : Addr) (bytes : List Byte) : State :=
  if bytes = [] then s else s.issue (.write a bytes)

/-- Issue a non-posted access under the next access number (log entry 3). -/
def State.access (s : State) (x : Nat → Issue) : State :=
  { s with link := { nextAcc := s.link.nextAcc + 1, issued := s.link.issued ++ [x s.link.nextAcc] } }

/-- Send the interrupt message when the message-enable input is 1 (R170). -/
def State.sendMessage (s : State) : State := if s.engine.messageEnable then s.issue .message else s

/-! ### Causes and faults -/

/-- The bit of a cause (section 11.10). -/
inductive Cause where
  | done
  | fault
  | stall
  | spares
deriving DecidableEq, Repr

/-- A cause's position in CAUSE. -/
def Cause.mask : Cause → BitVec 4
  | .done => 1
  | .fault => 2
  | .stall => 4
  | .spares => 8

/-- Set a cause; a message is sent when the set was empty (R169, R170). -/
def State.setCause (s : State) (c : Cause) : State :=
  let s' := if s.engine.causes = 0 then s.sendMessage else s
  { s' with engine := { s'.engine with causes := s'.engine.causes ||| c.mask } }

/-- The Loop Port as it stands after entry to FAULTED (R46). -/
def LoopPort.freeze (l : LoopPort) : LoopPort :=
  { l with state := .down, window := [], quietTimer := none, settleTimer := none, syncTimer := none,
           lineLoss := false, transmitting := none }

/-- A block raises a fault: in STARTING, RUNNING or QUIESCING the engine enters FAULTED with code and detail, the
FAULT cause is set and the Loop Port shows DOWN with its window forgotten; every other block keeps its state. In
any other engine state the fault is dropped (R165). -/
def State.raise (s : State) (f : PendingFault) : State :=
  if s.active || s.engine.state == .starting then
    ({ s with engine := { s.engine with state := .faulted, faultCode := f.code, faultDetail := f.detail },
              loop := s.loop.freeze }).setCause .fault
  else s

/-- A queue's number in a fault detail (section 11.10). -/
def queueCode : Queue → BitVec 2
  | .request => 1
  | .done => 2
  | .spare => 3

/-- The detail of a fault that names a queue, or none, and a frame index or 0 (section 11.10). -/
def queueDetail (q : Option Queue) (index : Nat) : BitVec 18 :=
  BitVec.ofNat 16 index ++ (match q with
    | some q => queueCode q
    | none => (0 : BitVec 2))

/-- The detail of ANCHOR BAD: check number, and the entry or field it names (section 11.10). -/
def anchorDetail (check further : Nat) : BitVec 18 :=
  (0#8) ++ BitVec.ofNat 4 further ++ BitVec.ofNat 4 check ++ (0#2)

/-! ### Host addresses -/

/-- The anchor address (R158). -/
def State.anchorAddr (s : State) : Addr := s.engine.anchorHigh ++ s.engine.anchorLow

/-- Where a queue's header lies (section 11.2). -/
def State.headerAddr (s : State) : Queue → Addr
  | .request => s.anchorAddr + 0x10
  | .done => s.anchorAddr + 0x20
  | .spare => s.anchorAddr + 0x30

/-- Where frame `k` lies: arena base + 128 * (k - 1) (R121). -/
def State.frameAddr (s : State) (k : Nat) : Addr := s.engine.config.arenaBase + BitVec.ofNat 64 (128 * (k - 1))

/-! ### Custody (chapter 8) -/

/-- Whether a slot is free. -/
def State.freeSlot (s : State) (i : Fin 40) : Bool := (s.slot i).isNone

/-- The number of free slots. -/
def State.freeCount (s : State) : Nat := (s.intake.custody.toList.filter Option.isNone).length

/-- Slots counted for removals in progress that may yet yield a frame: none once a fault has ended or frozen them
(R135, R140). -/
def State.reserved (s : State) : Nat :=
  if s.engine.state = .faulted then 0
  else (if s.intake.taker = .looking then 1 else 0) + (if s.notice.removing then 1 else 0)

/-- The available count (R140). -/
def State.available (s : State) : Nat := s.freeCount - s.reserved

/-- Whether an arena index is in custody (R143). -/
def State.inCustody (s : State) (k : Nat) : Bool :=
  s.intake.custody.toList.any fun x => match x with
    | some x => x.index == k
    | none => false

/-- Whether some slot is TAKEN (R141). -/
def State.anyTaken (s : State) : Bool :=
  s.intake.custody.toList.any fun x => match x with
    | some x => x.state == .taken
    | none => false

/-- The lowest-numbered free slot (R138). -/
def State.lowestFree (s : State) : Option (Fin 40) := (List.finRange 40).find? s.freeSlot

/-- What a done record or a notice holds in the frame header (R153). -/
structure DoneRecord where
  result : Nat
  stepError : Nat := 0
  station : Nat := 0
  stepIndex : Nat := 0
  countA : Word := 0
  countB : Word := 0
deriving DecidableEq, Repr

/-- Mark a slot READY: it takes the ready counter as its ready order number, and the counter increases by one,
wrapping (R152). -/
def State.markReady (s : State) (i : Fin 40) : State :=
  match s.slot i with
  | some x =>
    let s' := s.setSlot i (some { x with state := .ready, readyNumber := s.intake.readyCounter })
    { s' with intake := { s'.intake with readyCounter := s.intake.readyCounter + 1 } }
  | none => s

/-- Write a frame's result fields: result code, step error and station at 05h, counts A and B and the step index
at 10h (section 11.3; the cut into two writes is log entry 21). -/
def State.writeResult (s : State) (k : Nat) (d : DoneRecord) : State :=
  let s1 := s.post (s.frameAddr k + 0x05) (le 1 d.result ++ le 1 d.stepError ++ le 1 d.station)
  s1.post (s.frameAddr k + 0x10) (le32 d.countA ++ le32 d.countB ++ le 2 d.stepIndex)

/-- Finish a frame's work: issue the done record and the body's result bytes (from an offset of the body), then
mark the slot READY (R152, R153). -/
def State.finish (s : State) (i : Fin 40) (d : DoneRecord) (offset : Nat := 0) (bytes : List Byte := []) : State :=
  match s.slot i with
  | some x =>
    let s1 := s.writeResult x.index d
    (s1.post (s.frameAddr x.index + BitVec.ofNat 64 (0x20 + offset)) bytes).markReady i
  | none => s

/-- The request record of a slot. -/
def State.recordOf (s : State) (i : Fin 40) : Option Record := (s.slot i).bind Slot.record

/-- The body of a slot's request record; zero before its read has arrived. -/
def State.bodyOf (s : State) (i : Fin 40) : Body :=
  match s.recordOf i with
  | some r => r.body
  | none => 0

/-! ### Holds (R11) -/

/-- Place a hold for an owner (R15). -/
def State.placeHold (s : State) (i : CtxId) (h : Hold) : State :=
  { s with store := { s.store with holds := s.store.holds.set i (some h) } }

/-- Remove an owner's hold (R16). -/
def State.dropHold (s : State) (i : CtxId) : State :=
  { s with store := { s.store with holds := s.store.holds.set i none } }

/-! ### Queue Unit operations by queue -/

/-- The operation of a queue (R125). -/
def QueueUnit.op (u : QueueUnit) : Queue → Option QueueOp
  | .request => u.request
  | .done => u.done
  | .spare => u.spare

/-- Replace the operation of a queue. -/
def QueueUnit.setOp (u : QueueUnit) (q : Queue) (o : Option QueueOp) : QueueUnit :=
  match q with
  | .request => { u with request := o }
  | .done => { u with done := o }
  | .spare => { u with spare := o }

/-- Replace the operation of a queue. -/
def State.setOp (s : State) (q : Queue) (o : Option QueueOp) : State := { s with queues := s.queues.setOp q o }

/-! ### Statistics (R68) -/

/-- Change the statistics counters. -/
def State.count (s : State) (f : Stats → Stats) : State := { s with loop := { s.loop with stats := f s.loop.stats } }

end Sys2Proof.Machine
end

