-- ==== Sys2Proof/Machine/Flags.lean ====
section
/-! DEFINITION. The register window's fields (sections 9.6 and 11.10): codes, ENGINE STATUS, CAUSE, and what each
offset reads as (R166, R167, R169, R179). Reads change no state. -/

namespace Sys2Proof.Machine

open Sys2Proof

/-- Engine state codes (section 11.9). -/
def EngineState.code : EngineState → Nat
  | .stopped => 0
  | .starting => 1
  | .running => 2
  | .quiescing => 3
  | .faulted => 4

/-- Loop state codes (section 11.9). -/
def LoopState.code : LoopState → Nat
  | .down => 0
  | .syncing => 1
  | .opened => 2
  | .draining => 3
  | .switching => 4
  | .settling => 5
  | .quiet => 6

/-- Fault codes (section 11.9). -/
def FaultCode.code : FaultCode → Nat
  | .none => 0
  | .anchorBad => 1
  | .queueDamaged => 2
  | .hostReadFault => 3
  | .lockReleaseFault => 4

/-- LOCK STALL: some operation of the Queue Unit is stalled (R128, R167). -/
def State.lockStall (s : State) : Bool :=
  [s.queues.request, s.queues.done, s.queues.spare].any fun o => match o with
    | some o => o.stalled
    | none => false

/-- ENGINE STATUS as it stands (R167, section 11.10). -/
def State.engineStatus (s : State) : Word :=
  s.engine.faultDetail ++ (0#1) ++ BitVec.ofNat 3 s.engine.faultCode.code ++ BitVec.ofBool s.notice.episode ++
    BitVec.ofBool s.lockStall ++ (0#1) ++ BitVec.ofNat 3 s.loop.state.code ++ (0#1) ++
    BitVec.ofNat 3 s.engine.state.code

/-- The 32-bit register at a word offset of the window; ENGINE COMMAND, PROMPT and 18h-1Fh read as 0 (R166). -/
def State.readRegister (s : State) (offset : Nat) : Word :=
  if offset = 0x00 then s.engine.anchorLow
  else if offset = 0x04 then s.engine.anchorHigh
  else if offset = 0x0C then s.engineStatus
  else if offset = 0x14 then s.engine.causes.setWidth 32
  else 0

/-- A read of any width: the addressed bytes of the window, lowest first; none while the window does not answer
(R164, R166). -/
def State.readWindow (s : State) (offset bytes : Nat) : Option (List Byte) :=
  if s.windowAnswers then
    some ((List.range bytes).map fun k => u8 (s.readRegister ((offset + k) / 4 * 4)) ((offset + k) % 4))
  else none

end Sys2Proof.Machine
end

