-- ==== Sys2Proof/Machine/Records.lean ====
section
/-! DEFINITION. The byte layouts of what the part writes into host memory (sections 11.6 to 11.9): capture entries,
survey and query records, the loop and hold reports, notice bodies, and the code values they hold. -/

namespace Sys2Proof.Machine

open Sys2Proof

/-! ### Codes (section 11.9) -/

/-- Result codes. -/
inductive Result where
  | done
  | badKind
  | badField
  | badAddress
  | shortBuffer
  | noEnd
  | vacantStep
  | badStep
  | inUse
  | busy
  | noCadence
  | badRelease
  | notFound
  | noEffect
  | stepFailed
  | cancelled
  | stopped
  | quiesced
  | loopDown
  | sourceFault
deriving DecidableEq, Repr

/-- Result codes (section 11.9). -/
def Result.code : Result → Nat
  | .done => 0
  | .badKind => 1
  | .badField => 2
  | .badAddress => 3
  | .shortBuffer => 4
  | .noEnd => 5
  | .vacantStep => 6
  | .badStep => 7
  | .inUse => 8
  | .busy => 9
  | .noCadence => 10
  | .badRelease => 11
  | .notFound => 12
  | .noEffect => 13
  | .stepFailed => 14
  | .cancelled => 15
  | .stopped => 16
  | .quiesced => 17
  | .loopDown => 18
  | .sourceFault => 19

/-- Step error codes (R32). -/
def StepError.code : StepError → Nat
  | .refused => 1
  | .noStation => 2
  | .loopLost => 3
  | .checkFail => 4
  | .readyTimeout => 5
  | .bypassed => 6
  | .loopDown => 7
  | .inputFault => 8

/-- Stop reason codes. -/
def StopReason.code : StopReason → Nat
  | .none => 0
  | .requested => 1
  | .missed => 2
  | .lagging => 3
  | .loopDown => 4
  | .quiesced => 5

/-- Cadence state codes. -/
def CadState.code : CadState → Nat
  | .idle => 0
  | .waiting => 1
  | .running => 2
  | .stopping => 3

/-- Station state codes (section 11.7). -/
def StationState.code : StationState → Nat
  | .unknown => 1
  | .present => 2
  | .absent => 3
  | .bypassed => 4

/-- RECONFIGURE outcome codes. -/
def Outcome40.code : Outcome40 → Nat
  | .unlisted => 0
  | .switched => 1
  | .already => 2
  | .refused => 3
  | .noStation => 4
  | .notDone => 5

/-- A kind's frame code for the two notices (section 11.9). -/
abbrev attentionNoticeKind : Nat := 32

/-- RING NOTICE (section 11.9). -/
abbrev ringNoticeKind : Nat := 33

/-! ### Capture entries (section 11.6) -/

/-- Entry kinds. -/
inductive EntryKind where
  | data
  | mark
  | fault
deriving DecidableEq, Repr

/-- Entry kind codes. -/
def EntryKind.code : EntryKind → BitVec 2
  | .data => 1
  | .mark => 2
  | .fault => 3

/-- The fields of a capture entry (R35). -/
structure Entry where
  kind : EntryKind
  runSequence : Word
  step : Nat
  station : BitVec 6
  element : Nat
  ack : Bool
  ready : Bool
  failed : Bool
  shortEnd : Bool
  data : Word
  time : Word
deriving DecidableEq, Repr

/-- The 16 bytes of a capture entry (section 11.6, R181). -/
def Entry.bytes (e : Entry) : List Byte :=
  le32 e.runSequence ++ le32 e.data ++ le 2 e.element ++
    le 2 ((0#1) ++ BitVec.ofBool e.shortEnd ++ BitVec.ofBool e.failed ++ e.kind.code ++
      BitVec.ofNat 11 e.step : BitVec 16).toNat ++
    le 1 (BitVec.ofBool e.ready ++ BitVec.ofBool e.ack ++ e.station : BitVec 8).toNat ++
    le 3 e.time.toNat

/-! ### Station, cadence, loop and hold records (section 11.7) -/

/-- A survey record (R77). -/
def Station.surveyBytes (x : Station) : List Byte := le 1 x.state.code ++ zeros 3 ++ le32 x.ident

/-- The attention entry code of a station: NONE, WAITING or HELD (R174). -/
def entryCode (l : List Attention) (a : Nat) : Nat :=
  match l.find? (fun e => e.station.toNat == a) with
  | none => 1
  | some e => if e.held then 3 else 2

/-- A station query record (R174). -/
def Station.queryBytes (x : Station) (entry : Nat) : List Byte :=
  le 1 x.state.code ++ le 1 (if x.attention then 1 else 2) ++ le 1 entry ++ zeros 1 ++ le32 x.ident

/-- A cadence query record of 80 bytes (R177). -/
def Cadence.queryBytes (x : Cadence) : List Byte :=
  le 1 x.state.code ++ le 1 x.reason.code ++ le 1 (bit x.outstanding) ++ le 1 (bit x.owed) ++
    le 2 x.programStart.toNat ++ le 1 x.missLimit.toNat ++ zeros 1 ++ le32 x.lmax ++ le32 x.period ++
    le32 x.phase ++ le32 x.ringSize ++ le 8 x.ringBase.toNat ++ le32 x.interval ++ le32 x.p ++ le32 x.c ++
    le32 x.nextBoundary ++ le32 x.consecutive ++ le32 x.overlapMisses ++ le32 x.spaceMisses ++
    le32 x.runsStarted ++ le32 x.runsFailed ++ le32 x.runSequence ++ zeros 8

/-- Loop operation codes. -/
def LoopOp.code : Option LoopOp → Nat
  | none => 0
  | some (.reconfigure _) => 1
  | some (.restart _) => 2

/-- The eight counters in the report's order. -/
def Stats.bytes (x : Stats) : List Byte :=
  le32 x.framesSent ++ le32 x.repliesAccepted ++ le32 x.checkFailures ++ le32 x.sequenceFaults ++
    le32 x.replyTimeouts ++ le32 x.recoveries ++ le32 x.attentionsReceived ++ le32 x.attentionsMerged

/-- The 96-byte body of a LOOP query's answer (R175). -/
def State.loopReport (s : State) (cleared : Bool) : List Byte :=
  le 1 s.engine.state.code ++ le 1 s.loop.state.code ++ le 1 (LoopOp.code s.loop.op) ++
    le 1 s.loop.window.length ++ le 1 s.loop.sequence.toNat ++ le 1 s.loop.attempt ++ le 1 (bit cleared) ++
    zeros 1 ++ le32 s.engine.timeBase ++ zeros 4 ++ s.loop.stats.bytes ++ zeros 48

/-- A hold record (section 11.7). -/
def holdBytes : Option Hold → List Byte
  | none => zeros 8
  | some h => le 1 1 ++ zeros 1 ++ le 2 h.first ++ le 2 h.last ++ zeros 2

/-- The 96-byte body of a HOLDS query's answer (R178). -/
def State.holdReport (s : State) : List Byte :=
  (match s.store.load with
    | none => zeros 8
    | some l => le 1 1 ++ zeros 1 ++ le 2 l.dest ++ le 2 (l.dest + l.count - 1) ++ zeros 2) ++
    (s.store.holds.toList.flatMap holdBytes) ++ zeros 8

end Sys2Proof.Machine
end

