-- ==== Sys2Proof/Machine/Contexts.lean ====
section
/-! DEFINITION. The ten contexts (chapter 2), with what their entries and their ends do at the Cadence Unit
(R96, R98, R99, R105), and the walk of a SURVEY (R75, R76, R77). -/

namespace Sys2Proof.Machine

open Sys2Proof

/-! ### At the Cadence Unit -/

/-- The body a stopped START frame carries from 20h: C, overlap and space misses, runs failed, run sequence and
L_max (section 11.4). -/
def Cadence.startBytes (c : Cadence) : List Byte :=
  le32 c.c ++ le32 c.overlapMisses ++ le32 c.spaceMisses ++ le32 c.runsFailed ++ le32 c.runSequence ++ le32 c.lmax

/-- A cadence reaches IDLE: its trigger timer stops, its owed notice is dropped, its hold is removed and its START
frame completes STOPPED (R105). -/
def State.cadenceIdle (s : State) (n : Fin 8) : State :=
  let c := s.cad n
  let s1 := (s.setCad n { c with state := .idle, trigger := none, owed := false }).dropHold (contextOf n)
  s1.finish c.startSlot
    { result := Result.stopped.code, stepError := c.reason.code, stepIndex := c.programStart.toNat,
      countA := c.p, countB := c.runsStarted } 0x20 c.startBytes

/-- A cadence context reports the end of its run (R96). -/
def State.reportRun (s : State) (n : Fin 8) : State :=
  let c := s.cad n
  match c.state with
  | .running => s.setCad n { c with state := .waiting }
  | .stopping => s.cadenceIdle n
  | _ => s

/-- Set a context's cancel flag and cause, unless the flag is already set (R42). -/
def State.flagCancel (s : State) (i : CtxId) (cause : CancelCause) : State :=
  s.setCtx i { s.ctx i with cancel := (s.ctx i).cancel.or (some cause) }

/-- What happens when P equals next boundary: with notice outstanding clear a notice becomes owed; with it set, a
RUNNING cadence stops LAGGING and its context is flagged (R99). -/
def State.boundary (s : State) (n : Fin 8) : State :=
  let c := s.cad n
  if c.outstanding then
    if c.state = .running then
      (s.setCad n { c with state := .stopping, reason := .lagging }).flagCancel (contextOf n) .stop
    else s
  else s.setCad n { c with outstanding := true, owed := true, nextBoundary := c.nextBoundary + c.interval }

/-- Where a cadence's next entry goes: ring base + 16 * (P mod S) (R98). -/
def Cadence.entryAddr (c : Cadence) : Addr := c.ringBase + BitVec.ofNat 64 (16 * (c.p.toNat % c.ringSize.toNat))

/-- A cadence context writes an entry and P increases by one, with the boundary check (R98). -/
def State.pushEntry (s : State) (n : Fin 8) (bytes : List Byte) : State :=
  let c := s.cad n
  let s1 := (s.post c.entryAddr bytes).setCad n { c with p := c.p + 1 }
  if c.p + 1 = c.nextBoundary then s1.boundary n else s1

/-! ### Entries and ends -/

/-- A context writes a capture entry (R35): a RUN at its output cursor, a cadence context into its ring. The first
entry after a short end carries short-end 1. -/
def State.writeEntry (s : State) (i : CtxId) (kind : EntryKind) (station : BitVec 6) (element : Nat)
    (ack ready failed : Bool) (data : Word) : State :=
  let c := s.ctx i
  let e : Entry :=
    { kind, runSequence := c.runSequence, step := c.step, station, element, ack, ready, failed,
      shortEnd := c.shortPending, data, time := s.engine.timeBase }
  match c.job with
  | .run =>
    (s.post c.outCursor e.bytes).setCtx i
      { c with shortPending := false, entries := c.entries + 1, outCursor := c.outCursor + 16 }
  | .cadence =>
    match cadenceOf i with
    | some n => (s.setCtx i { c with shortPending := false, entries := c.entries + 1 }).pushEntry n e.bytes
    | none => s
  | _ => s

/-- A context returns to IDLE: its timer stops and an input read still outstanding is no longer awaited
(R22, R43). -/
def State.toIdle (s : State) (i : CtxId) : State :=
  s.setCtx i { s.ctx i with state := .idle, timer := none, inputRead := none }

/-- The result of a cancel cause (R39). -/
def CancelCause.result : CancelCause → Result
  | .cancel => .cancelled
  | .quiesce => .quiesced
  | .stop => .cancelled

/-- The result a request ends with: its cancel cause's, when its cancel flag is set (R43). -/
def Context.result (c : Context) (r : Result) : Result :=
  match c.cancel with
  | some cause => cause.result
  | none => r

/-- The result area of a RUN (section 11.4). -/
def Context.runBytes (c : Context) : List Byte := le 4 c.shortSteps ++ le 4 c.continued ++ le 4 c.lmax ++ le 4 c.wmax

/-- A RUN completes: done record, hold removed, slot READY, context IDLE (R39). Ended in CHECKING, it writes free values for
the bounds that no prepass has computed (log entry 36). -/
def State.completeRun (s : State) (i : CtxId) (r : Result) : State :=
  let c := s.ctx i
  let d : DoneRecord :=
    { result := (c.result r).code, stepError := (c.failing.map fun f => f.error.code).getD 0,
      station := (c.failing.map fun f => f.station.toNat).getD 0,
      stepIndex := (c.failing.map fun f => f.step).getD 0,
      countA := BitVec.ofNat 32 c.entries, countB := BitVec.ofNat 32 c.words }
  ((s.finish c.owner d 0x20 c.runBytes).dropHold i).toIdle i

/-- The result area of an EXCHANGE: reply data, attempts, indicators (section 11.4). -/
def Context.exchangeBytes (c : Context) (failed : Bool) : List Byte :=
  le32 c.lastData ++ le 4 c.attempts ++
    le 1 (bit c.lastAck + 2 * bit c.lastReady + 4 * bit failed + 8 * bit c.shortPending)

/-- An EXCHANGE completes (R41). -/
def State.completeExchange (s : State) (i : CtxId) (r : Result) : State :=
  let c := s.ctx i
  let failed : Bool := c.result r == .stepFailed
  let d : DoneRecord :=
    { result := (c.result r).code,
      stepError := if failed then (c.failing.map fun f => f.error.code).getD 0 else 0,
      station := c.elem.station.toNat }
  (s.finish c.owner d 0x10 (c.exchangeBytes failed)).toIdle i

/-- The 40 station records a SURVEY writes (R77). -/
def State.surveyRecords (s : State) : List Byte := s.stations.toList.flatMap Station.surveyBytes

/-- A SURVEY completes: its 40 records, its done record, slot READY, context IDLE (R77). -/
def State.completeSurvey (s : State) (i : CtxId) (r : Result) : State :=
  let c := s.ctx i
  let d : DoneRecord :=
    { result := (c.result r).code, stepError := (c.failing.map fun f => f.error.code).getD 0,
      station := (c.failing.map fun f => f.station.toNat).getD 0,
      countA := BitVec.ofNat 32 c.counts.probed, countB := BitVec.ofNat 32 c.counts.present }
  let s1 := s.post (u64 (s.bodyOf c.owner) 0x00) s.surveyRecords
  (s1.finish c.owner d 0x10 (le 4 c.counts.absent ++ le 4 c.counts.skipped ++ le 4 c.counts.unresolved)).toIdle i

/-- A cadence context ends its run and reports it (R21, R34, R43, R96). -/
def State.endCadenceRun (s : State) (i : CtxId) : State :=
  match cadenceOf i with
  | some n => (s.toIdle i).reportRun n
  | none => s.toIdle i

/-- A context ends on its cancel flag (R43). -/
def State.endCancelled (s : State) (i : CtxId) : State :=
  match (s.ctx i).job with
  | .cadence => s.endCadenceRun i
  | .run => s.completeRun i .cancelled
  | .exchange => s.completeExchange i .cancelled
  | .survey => s.completeSurvey i .cancelled
  | .none => s.toIdle i

/-- A cadence's count of failed runs increases by one (R96). -/
def State.countFailedRun (s : State) (i : CtxId) : State :=
  match cadenceOf i with
  | some n => s.setCad n { s.cad n with runsFailed := satInc (s.cad n).runsFailed }
  | none => s

/-- A step error halts the run (R34); for a SURVEY, LOOP LOST or LOOP DOWN ends the walk (R76). -/
def State.halt (s : State) (i : CtxId) (err : StepError) : State :=
  let c := s.ctx i
  let step := match c.job with
    | .survey => 0
    | _ => c.step
  let s1 := s.setCtx i { c with failing := some { step, error := err, station := c.elem.station } }
  match c.job with
  | .cadence =>
    ((s1.writeEntry i .fault c.elem.station c.element false false true (BitVec.ofNat 32 err.code)).countFailedRun
      i).endCadenceRun i
  | .run => s1.completeRun i .stepFailed
  | .exchange => s1.completeExchange i .stepFailed
  | .survey => s1.completeSurvey i .stepFailed
  | .none => s1.toIdle i

/-! ### Steps and elements -/

/-- An element begins: its per-element fields are set and the context enters ISSUING; with the loop DOWN the element
fails with LOOP DOWN at once; an INPUT element first reads its input word (R22, R23). -/
def State.beginElement (s : State) (i : CtxId) : State :=
  let c := s.ctx i
  let c' : Context :=
    { c with state := .issuing, retries := s.engine.config.retryLimit, readyWait := 0, readyOn := false,
             attempts := 0, held := none, timer := none }
  let s1 := s.setCtx i c'
  if s.loop.state = .down then s1.halt i .loopDown
  else if c.elem.access.isInput then
    (s1.access fun acc => .read acc c.inCursor 4).setCtx i { c' with inputRead := some s.link.nextAcc }
  else s1

/-- The run reaches END (R21). -/
def State.endRun (s : State) (i : CtxId) : State :=
  match (s.ctx i).job with
  | .cadence => s.endCadenceRun i
  | _ => s.completeRun i .done

/-- A context begins the step at its current index: MARK steps are executed in the event, until a loop element, a
PAUSE or the END is reached; a set cancel flag ends the context instead (R21, R43). The first argument bounds the
steps one event can pass. A location that holds no step is never reached by a bound program (R21); the context then
stays where it stands (log entry 17). -/
def beginStep : Nat → CtxId → State → State
  | 0, _, s => s
  | fuel + 1, i, s =>
    let c := s.ctx i
    if c.cancel.isSome then s.endCancelled i
    else
      match fetchStep s.store.steps c.step with
      | none => s
      | some (.exchange e) => (s.setCtx i { c with elem := e, remaining := 1, element := 0 }).beginElement i
      | some (.block e count) =>
        (s.setCtx i { c with elem := e, remaining := count.toNat, element := 0 }).beginElement i
      | some (.mark label) =>
        let s1 := s.writeEntry i .mark 0 0 false false false label
        beginStep fuel i (s1.setCtx i { s1.ctx i with step := c.step + 1 })
      | some (.pause count) => s.setCtx i { c with state := .paused, timer := some count.toNat }
      | some .endStep => s.endRun i

/-- Begin the step at the current index (R21). -/
def State.beginStepAt (s : State) (i : CtxId) : State := beginStep (Config.storeSize + 1) i s

/-- Advance the current step by one and begin that step (R21). -/
def State.nextStep (s : State) (i : CtxId) : State :=
  (s.setCtx i { s.ctx i with step := (s.ctx i).step + 1 }).beginStepAt i

/-- An element ends as completed or as failed under GO ON: its ready-wait stops growing, its input word is consumed, and
the next element or the next step begins, or the context ends on its cancel flag (R30, R36, R43). -/
def State.endElement (s : State) (i : CtxId) : State :=
  let c := s.ctx i
  let c1 : Context :=
    if c.elem.access.isInput then { c with inCursor := c.inCursor + 4, words := c.words + 1 } else c
  let c2 : Context := { c1 with remaining := c.remaining - 1, readyOn := false }
  if c.cancel.isSome then (s.setCtx i c2).endCancelled i
  else if 0 < c2.remaining then (s.setCtx i { c2 with element := c.element + 1 }).beginElement i
  else (s.setCtx i c2).nextStep i

/-- Whether a step error follows the step's on-error (R32). -/
def StepError.followsOnError : StepError → Bool
  | .loopDown => false
  | .inputFault => false
  | _ => true

/-- A step error ends the element: under GO ON the run goes on with a failed entry, otherwise the run halts
(R32, R33, R34). An EXCHANGE has no later step to go on to (R41). -/
def State.stepError (s : State) (i : CtxId) (err : StepError) (ack ready : Bool) : State :=
  let c := s.ctx i
  if err.followsOnError && c.elem.goOn && c.job != .exchange then
    let s1 := s.setCtx i
      { c with continued := c.continued + 1,
               failing := c.failing.or (some { step := c.step, error := err, station := c.elem.station }) }
    let s2 :=
      if c.elem.access.logged then
        s1.writeEntry i .data c.elem.station c.element ack ready true (BitVec.ofNat 32 err.code)
      else s1
    s2.endElement i
  else s.halt i err

/-- An element completes (R26, R27): the entry it earns is written and the element ends; an EXCHANGE completes. -/
def State.completeElement (s : State) (i : CtxId) (ready : Bool) (data : Word) : State :=
  let c := s.ctx i
  match c.job with
  | .exchange => s.completeExchange i .done
  | _ =>
    (if c.elem.access.logged then
      s.writeEntry i .data c.elem.station c.element true ready false (c.elem.width.limit data)
    else s).endElement i

/-- A not-ready reply under STOP ends the step short (R28, R41). -/
def State.endShort (s : State) (i : CtxId) : State :=
  let c := s.ctx i
  let s1 := s.setCtx i { c with shortPending := true, shortSteps := c.shortSteps + 1, readyOn := false }
  match c.job with
  | .exchange => s1.completeExchange i .done
  | _ => s1.nextStep i

/-- A not-ready reply under AWAIT: READY TIMEOUT once the limit is reached, otherwise the context backs off for the
await gap, at once back in ISSUING when the gap is 0 (R29, R30). -/
def State.awaitReady (s : State) (i : CtxId) : State :=
  let c := s.ctx i
  let limit := s.engine.config.readyWaitLimit * 1000
  let s1 := s.setCtx i { c with readyOn := true }
  if 0 < limit ∧ limit ≤ c.readyWait then s1.stepError i .readyTimeout true false
  else if c.cancel.isSome then s1.endCancelled i
  else if s.engine.config.awaitGap = 0 then s1.setCtx i { c with readyOn := true, state := .issuing }
  else s1.setCtx i { c with readyOn := true, state := .backingOff, timer := some s.engine.config.awaitGap }

/-! ### SURVEY -/

/-- The IDENT exchange with a station: CONTROL to register select 63, width 32, data 0, under ACCEPT (R75). -/
def identExchange (a : Nat) : Exchange :=
  { station := BitVec.ofNat 6 a, access := .control (.inline 0) false, register := 63, width := .w32,
    readiness := .accept, goOn := false }

/-- The walk from an address upwards: BYPASSED addresses are skipped, any other is probed, and after the 40th the
SURVEY completes (R75, R77). The first argument bounds the addresses left. -/
def surveyWalk : Nat → CtxId → Nat → State → State
  | 0, i, _, s => s.completeSurvey i .done
  | fuel + 1, i, a, s =>
    let c := s.ctx i
    if 40 < a then s.completeSurvey i .done
    else if (s.station a).state = .bypassed then
      surveyWalk fuel i (a + 1) (s.setCtx i { c with counts := { c.counts with skipped := c.counts.skipped + 1 } })
    else (s.setCtx i { c with element := a, elem := identExchange a, remaining := 1 }).beginElement i

/-- The survey moves to the next address, or ends on its cancel flag (R76, R77). -/
def State.surveyNext (s : State) (i : CtxId) : State :=
  if (s.ctx i).cancel.isSome then s.endCancelled i else surveyWalk 41 i ((s.ctx i).element + 1) s

/-- A SURVEY begins its walk at address 1 (R75). -/
def State.surveyStart (s : State) (i : CtxId) : State := surveyWalk 41 i 1 s

/-! ### Outcomes of a frame (R25) -/

/-- What the Loop Port hands to the owner of a frame (R25). -/
inductive FrameOutcome where
  | reply (ack ready : Bool) (data : Word)
  | returned
  | checkFailure
  | abandoned
deriving DecidableEq, Repr

/-- Set a survey count. -/
def State.surveyCount (s : State) (i : CtxId) (f : SurveyCounts → SurveyCounts) : State :=
  s.setCtx i { s.ctx i with counts := f (s.ctx i).counts }

/-- The outcome of an IDENT probe (R76). -/
def State.probeOutcome (s : State) (i : CtxId) (o : FrameOutcome) : State :=
  let c := s.ctx i
  match o with
  | .reply ack _ data =>
    ((s.modStation c.element fun x => { x with state := .present, ident := if ack then data else 0 }).surveyCount i
      fun k => { k with probed := k.probed + 1, present := k.present + 1 }).surveyNext i
  | .returned =>
    ((s.modStation c.element fun x => { x with state := .absent, ident := 0 }).surveyCount i
      fun k => { k with probed := k.probed + 1, absent := k.absent + 1 }).surveyNext i
  | .checkFailure =>
    if c.cancel.isSome then s.endCancelled i
    else if 0 < c.retries then s.setCtx i { c with retries := c.retries - 1, state := .issuing }
    else
      ((s.setCtx i
          { c with failing := c.failing.or (some { step := 0, error := .checkFail, station := c.elem.station }) }).surveyCount
        i fun k => { k with probed := k.probed + 1, unresolved := k.unresolved + 1 }).surveyNext i
  | .abandoned => if c.cancel.isSome then s.endCancelled i else s.halt i .loopLost

/-- The outcome of a step's or an EXCHANGE's frame, with the Station Table's update (R25 to R31, R43, R73). An outcome
without a reply leaves ack and ready zero in a failed DATA entry, whatever an earlier not-ready reply of the element held
(R33; DESIGN CHOICE, log entry 40). -/
def State.elementOutcome (s : State) (i : CtxId) (o : FrameOutcome) : State :=
  let c := s.ctx i
  match o with
  | .reply ack ready data =>
    let s1 := (s.modStation c.elem.station.toNat fun x => { x with state := .present }).setCtx i
      { c with lastData := c.elem.width.limit data, lastAck := ack, lastReady := ready }
    if ack = false then s1.stepError i .refused ack ready
    else if ready then s1.completeElement i true data
    else
      match c.elem.readiness with
      | .accept => s1.completeElement i false data
      | .stop => s1.endShort i
      | .await => s1.awaitReady i
  | .returned =>
    (s.modStation c.elem.station.toNat fun x => { x with state := .absent }).stepError i .noStation false false
  | .checkFailure =>
    if c.cancel.isSome then s.endCancelled i
    else if 0 < c.retries then s.setCtx i { c with retries := c.retries - 1, state := .issuing }
    else s.stepError i .checkFail false false
  | .abandoned => if c.cancel.isSome then s.endCancelled i else s.stepError i .loopLost false false

/-- The Loop Port hands a context the outcome of its frame (R25, R76). -/
def State.deliver (s : State) (i : CtxId) (o : FrameOutcome) : State :=
  match (s.ctx i).job with
  | .survey => s.probeOutcome i o
  | _ => s.elementOutcome i o

/-- A grant lapses because the station is BYPASSED (R24, R75); a failed DATA entry then has ack and ready zero (R33; log
entry 40). -/
def State.lapse (s : State) (i : CtxId) : State :=
  match (s.ctx i).job with
  | .survey => (s.surveyCount i fun k => { k with skipped := k.skipped + 1 }).surveyNext i
  | _ => s.stepError i .bypassed false false

/-! ### Cancelling, starting and stopping -/

/-- A request to cancel a context: nothing for an IDLE one or one already flagged; otherwise the flag is set, and in
CHECKING, ISSUING, BACKING OFF or PAUSED the context ends at once (R42, R43). -/
def State.cancelCtx (s : State) (i : CtxId) (cause : CancelCause) : State :=
  let c := s.ctx i
  if c.state = .idle ∨ c.cancel.isSome then s
  else if c.state = .awaitingReply then s.flagCancel i cause
  else (s.flagCancel i cause).endCancelled i

/-- A cadence stops with a reason (R103). -/
def State.cadenceStop (s : State) (n : Fin 8) (r : StopReason) : State :=
  let c := s.cad n
  match c.state with
  | .waiting => (s.setCad n { c with reason := r }).cadenceIdle n
  | .running => (s.setCad n { c with state := .stopping, reason := r }).cancelCtx (contextOf n) .stop
  | _ => s

/-- A RUN's prepass result is taken (R38). -/
def State.runPrepass (s : State) (i : CtxId) : State :=
  let c := s.ctx i
  let b := s.bodyOf c.owner
  let start := (u16 b 0x18).toNat
  match prepass s.store start with
  | .vacant k =>
    (s.finish c.owner { result := Result.vacantStep.code, stepIndex := k } 0x20 (zeros 16)).toIdle i
  | .noEnd k => (s.finish c.owner { result := Result.noEnd.code, stepIndex := k } 0x20 (zeros 16)).toIdle i
  | .complete last l w =>
    if (u32 b 0x10).toNat < l ∨ (u32 b 0x14).toNat < w then
      (s.finish c.owner
        { result := Result.shortBuffer.code, stepIndex := start, countA := BitVec.ofNat 32 l,
          countB := BitVec.ofNat 32 w } 0x20 (zeros 8 ++ le 4 l ++ le 4 w)).toIdle i
    else
      ((s.setCtx i { c with lmax := l, wmax := w }).placeHold i { first := start, last }).beginStepAt i

/-- The request kinds a context serves (section 11.9). -/
abbrev runKind : Byte := 2

/-- EXCHANGE (section 11.9). -/
abbrev exchangeKind : Byte := 3

/-- SURVEY (section 11.9). -/
abbrev surveyKind : Byte := 7

/-- A request context starts the request of a slot: the slot passes to RUNNING and the record is set up afresh; a RUN
asks for its prepass, which waits while a load is in progress; an EXCHANGE begins its element; a SURVEY begins its
walk unless a loop operation is in progress (R10, R19, R75). Until a RUN's prepass has computed them, its bounds are free
values (R39; log entry 36). -/
def State.startRequest (s : State) (i : CtxId) (slot : Fin 40) : State :=
  let s0 := s.setSlotState slot .running
  let b := s.bodyOf slot
  let kind := (s.recordOf slot).map Record.kind
  if kind = some runKind then
    let out := u64 b 0x00
    let inp := u64 b 0x08
    let s1 := s0.setCtx i
      { Context.zero with
        state := .checking, job := .run, owner := slot, runSequence := u32 b 0x1C, step := (u16 b 0x18).toNat,
        outCursor := out, outLimit := out + BitVec.ofNat 64 (16 * (u32 b 0x10).toNat),
        inCursor := inp, inLimit := inp + BitVec.ofNat 64 (4 * (u32 b 0x14).toNat),
        lmax := Config.uncomputedBounds.1, wmax := Config.uncomputedBounds.2 }
    if s.store.load.isSome then s1 else s1.runPrepass i
  else if kind = some exchangeKind then
    match Step.ofImage (b.extractLsb' 0 128) with
    | some (.exchange e) =>
      (s0.setCtx i
        { Context.zero with state := .issuing, job := .exchange, owner := slot, elem := e, remaining := 1 }).beginElement i
    | _ => s0
  else if kind = some surveyKind then
    let s1 := s0.setCtx i { Context.zero with state := .checking, job := .survey, owner := slot }
    if s.loop.op.isSome then s1 else s1.surveyStart i
  else s0

/-- The Cadence Unit starts a cadence's context on its program (R20, R93). -/
def State.startCadenceRun (s : State) (n : Fin 8) : State :=
  let c := s.cad n
  (s.setCtx (contextOf n)
    { Context.zero with
      state := .issuing, job := .cadence, owner := ⟨n.val, by omega⟩, runSequence := c.runSequence,
      step := c.programStart.toNat }).beginStepAt (contextOf n)

end Sys2Proof.Machine
end

