-- ==== Sys2Proof/Machine/LoopPort.lean ====
section
/-! DEFINITION. The Loop Port (chapter 3) and the RECONFIGURE it carries out (section 4.4): the arbiter, the
transmitter, what each arrival does by loop state, recovery, SYNCING, the entries to OPEN, DOWN, QUIET, SWITCHING and
SETTLING. -/

namespace Sys2Proof.Machine

open Sys2Proof

/-- Change the Loop Port. -/
def State.setLoop (s : State) (f : LoopPort → LoopPort) : State := { s with loop := f s.loop }

/-! ### The arbiter (R50 to R52) -/

/-- Whether a context is eligible for a grant: in ISSUING with its frame prepared (R50). -/
def Context.eligible (c : Context) : Bool := c.state == .issuing && (!c.elem.access.isInput || c.held.isSome)

/-- The first eligible cadence context from the one after the last granted, wrapping from 7 to 0 (R51). -/
def State.pickCadence (s : State) : Option CtxId :=
  ((List.range 8).map fun k => contextOf (s.loop.lastCadence + 1 + Fin.ofNat 8 k)).find? fun i =>
    (s.ctx i).eligible

/-- The eligible request context that is chosen: with both eligible, the one not granted last (R51). -/
def State.pickRequest (s : State) : Option CtxId :=
  let a := (s.ctx ctxA).eligible
  let b := (s.ctx ctxB).eligible
  if a && b then some (if s.loop.lastRequestB then ctxA else ctxB)
  else if a then some ctxA
  else if b then some ctxB
  else none

/-- The context the next grant goes to: a cadence context first, but a request context when the guard count stands
at 8 (R51, R52). -/
def State.pick (s : State) : Option CtxId :=
  if Config.guardLimit ≤ s.loop.guard then s.pickRequest.or s.pickCadence else s.pickCadence.or s.pickRequest

/-- Whether the loop, the window and the transmitter allow a grant (R50). -/
def State.canGrant (s : State) : Bool :=
  s.loop.state == .opened && decide (s.loop.window.length < Config.windowSize) && s.loop.transmitting.isNone

/-- Record a grant: last cadence or last request granted, and the guard count (R51, R52). -/
def State.noteGrant (s : State) (i : CtxId) : State :=
  match cadenceOf i with
  | some n =>
    s.setLoop fun l =>
      { l with lastCadence := n, guard := if s.pickRequest.isSome then l.guard + 1 else 0 }
  | none => s.setLoop fun l => { l with lastRequestB := i == ctxB, guard := 0 }

/-! ### The transmitter (R47) -/

/-- The transmitter begins to send a frame, which then counts as sent (R47, R68). -/
def State.transmit (s : State) (f : LoopFrame) : State :=
  ((s.count fun k => { k with framesSent := satInc k.framesSent }).setLoop fun l =>
    { l with transmitting := some f }).issue (.frame f)

/-- Append a frame's record to the window under the sequence counter's value, and advance the counter (R48). -/
def State.enterWindow (s : State) (owner : Owner) (f : LoopFrame) : State :=
  s.setLoop fun l =>
    { l with window := l.window ++ [{ sequence := l.sequence, owner, frame := f, sendTime := none, deadline := none }],
             sequence := l.sequence + 1 }

/-- The data an element's COMMAND carries (R24). -/
def Context.frameData (c : Context) : Word :=
  match c.elem.access with
  | .read => 0
  | .write (.inline v) _ => v
  | .control (.inline v) _ => v
  | _ => c.held.getD 0

/-- The COMMAND frame of a context's element under a sequence number (R24). -/
def Context.command (c : Context) (sequence : BitVec 3) : LoopFrame :=
  { type := 1, sequence, station := c.elem.station, opClass := c.elem.access.code, register := c.elem.register,
    width := c.elem.width.code, ack := false, ready := false, data := c.frameData }

/-- Send a granted context's COMMAND (R24). -/
def State.sendCommand (s : State) (i : CtxId) : State :=
  let c := s.ctx i
  let f := c.command s.loop.sequence
  ((s.setCtx i { c with attempts := c.attempts + 1, state := .awaitingReply }).enterWindow (.context i) f).transmit f

/-- One grant, when there is one to make: the station's record is read in the same event, and for a BYPASSED station
the grant lapses (R24, R50). -/
def State.grant (s : State) : Option State :=
  if s.canGrant then
    match s.pick with
    | some i =>
      let s1 := s.noteGrant i
      if (s.station (s.ctx i).elem.station.toNat).state = .bypassed then some (s1.lapse i) else some (s1.sendCommand i)
    | none => none
  else none

/-- The SYNC frame of an attempt (R62). -/
def syncFrame (attempt : Nat) : LoopFrame :=
  { type := 4, sequence := 0, station := 0, opClass := 0, register := 0, width := 0, ack := false, ready := false,
    data := BitVec.ofNat 32 (0x5AC39600 + attempt) }

/-- The position a RECONFIGURE asks of a station: 1 bypass, 2 insert (R71, R82). -/
def Reconfigure.asked (r : Reconfigure) (a : Nat) : Word := if r.bypass.getLsbD a then 1 else 2

/-- The SWITCH frame for the station being switched (R71, R82). -/
def Reconfigure.frame (r : Reconfigure) (sequence : BitVec 3) : LoopFrame :=
  { type := 5, sequence, station := BitVec.ofNat 6 r.current, opClass := 0, register := 0, width := 0, ack := false,
    ready := false, data := r.asked r.current }

/-- Send the SYNC or SWITCH frame that is due; a SWITCH stands in the window as the only record there (R62, R82). -/
def State.sendOwn (s : State) : State :=
  let s0 := s.setLoop fun l => { l with sendDue := false }
  match s.loop.state, s.loop.op with
  | .syncing, _ => s0.transmit (syncFrame s.loop.attempt)
  | .switching, some (.reconfigure r) =>
    let f := r.frame s.loop.sequence
    ((s0.setLoop fun l => { l with op := some (.reconfigure { r with sent := r.sent + 1 }), window := [] }).enterWindow
      .reconfigure f).transmit f
  | _, _ => s0

/-- The transmitter finishes its frame: the frame's send time and reply deadline are set, or the SYNC timer is
started (R47, R48, R62). -/
def State.transmitEnd (s : State) : State :=
  if s.loop.transmitting.isSome then
    s.setLoop fun l =>
      { l with
        transmitting := none,
        window := l.window.map fun r =>
          if r.sendTime.isNone then
            { r with sendTime := some s.engine.timeBase,
                     deadline := some (s.engine.timeBase + BitVec.ofNat 32 s.engine.config.replyTimeout) }
          else r,
        syncTimer := if l.state = .syncing ∧ l.syncWaits ∧ ¬ l.sendDue then some s.engine.config.replyTimeout
          else l.syncTimer }
  else s

/-! ### SYNCING, OPEN and DOWN (R62 to R64) -/

/-- A SYNC attempt begins: its number rises by one and its frame is due (R62). -/
def State.syncAttempt (s : State) : State :=
  s.setLoop fun l =>
    { l with attempt := l.attempt + 1, syncWaits := true, sendDue := true, quietTimer := none, syncTimer := none }

/-- Entry to SYNCING (R62). -/
def State.enterSyncing (s : State) : State :=
  (s.setLoop fun l =>
    { l with state := .syncing, window := [], sequence := 0, attempt := 0, settleTimer := none }).syncAttempt

/-- The number of stations whose outcome is SWITCHED. -/
def Reconfigure.switched (r : Reconfigure) : Nat := (r.outcomes.toList.filter (· == .switched)).length

/-- The loop operation in progress completes with a result, and its field returns to none (R63, R64, R66, R85). -/
def State.completeOp (s : State) (r : Result) : State :=
  let s0 := s.setLoop fun l => { l with op := none }
  match s.loop.op with
  | none => s
  | some (.restart slot) => s0.finish slot { result := r.code, countA := BitVec.ofNat 32 s.loop.attempt }
  | some (.reconfigure x) =>
    s0.finish x.slot
      { result := r.code, station := x.timedOut, countA := BitVec.ofNat 32 x.sent,
        countB := BitVec.ofNat 32 x.switched } 0x20 (x.outcomes.toList.flatMap fun o => le 1 o.code)

/-- The loop leaves SYNCING: its timers stop and no attempt waits. -/
def LoopPort.endSyncing (l : LoopPort) (state : LoopState) : LoopPort :=
  { l with state, syncTimer := none, quietTimer := none, syncWaits := false, sendDue := false }

/-- Entry to OPEN from SYNCING: a loop operation in progress completes DONE (R63). The grants follow at the end of the
event. -/
def State.enterOpen (s : State) : State := (s.setLoop fun l => l.endSyncing .opened).completeOp .done

/-- Whether a context waits to send: in ISSUING or BACKING OFF (R44, R64). -/
def Context.waitsToSend (c : Context) : Bool := c.state == .issuing || c.state == .backingOff

/-- Those the DOWN entry tells: each context waiting to send, and the loop operation, told as `none` (R64). -/
def State.downTold (s : State) : List (Option CtxId) :=
  (((List.range 10).map (Fin.ofNat 10)).filter fun i => (s.ctx i).waitsToSend).map some ++
    (if s.loop.op.isSome then [none] else [])

/-- What the DOWN entry does to one of them. -/
def State.tellDown (s : State) : Option CtxId → State
  | some i => s.stepError i .loopDown false false
  | none => s.completeOp .loopDown

/-- Entry to DOWN when the third attempt fails: contexts waiting to send fail with LOOP DOWN, the Cadence Unit is told,
and a loop operation completes LOOP DOWN (R64). The blocks' markings come in either order (R152, log entry 5). -/
def State.enterDown (s : State) : State :=
  let s0 := s.setLoop fun l => l.endSyncing .down
  let s1 := { s0 with cadences := mapTable (fun c => { c with downNotice := c.downNotice || c.state != .idle }) s0.cadences }
  let told := s1.downTold
  (freeOrder s1 told).foldl State.tellDown (s1.chose told)

/-- The SYNC timer expires: the attempt fails, and a quiet interval follows or the loop goes DOWN (R62, R64). -/
def State.syncFailed (s : State) : State :=
  if s.loop.attempt < Config.syncAttempts then
    s.setLoop fun l =>
      { l with syncWaits := false, sendDue := false, syncTimer := none,
               quietTimer := some (2 * s.engine.config.replyTimeout) }
  else s.enterDown

/-! ### RECONFIGURE (R80 to R85) -/

/-- Entry to SETTLING (R85). -/
def State.enterSettling (s : State) : State :=
  s.setLoop fun l =>
    { l with state := .settling, sendDue := false, settleTimer := some s.engine.config.settleInterval }

/-- Whether a station is listed in either set. -/
def Reconfigure.listed (r : Reconfigure) (a : Nat) : Bool := r.bypass.getLsbD a || r.restore.getLsbD a

/-- Set a station's outcome. -/
def Reconfigure.setOutcome (r : Reconfigure) (a : Nat) (o : Outcome40) : Reconfigure :=
  match stationPlace a with
  | some p => { r with outcomes := r.outcomes.set p o }
  | none => r

/-- The RECONFIGURE takes the listed stations from an address upwards: ALREADY without a frame for a BYPASSED station of
the bypass set, a SWITCH for any other, SETTLING when none is left (R82). The first argument bounds the addresses
left. -/
def switchWalk : Nat → Nat → Reconfigure → State → State
  | 0, _, r, s => (s.setLoop fun l => { l with op := some (.reconfigure r) }).enterSettling
  | fuel + 1, a, r, s =>
    if r.bypass.getLsbD a ∧ (s.station a).state = .bypassed then
      switchWalk fuel (a + 1) (r.setOutcome a .already) s
    else if r.listed a then
      s.setLoop fun l =>
        { l with op := some (.reconfigure
                    { r with current := a, retries := s.engine.config.retryLimit, resent := false }),
                 sendDue := true }
    else switchWalk fuel (a + 1) r s

/-- Go on with the listed stations after an address (R82). -/
def State.switchNext (s : State) (r : Reconfigure) (a : Nat) : State := switchWalk (40 - a) (a + 1) r s

/-- Entry to SWITCHING, beginning with the lowest listed address (R82). -/
def State.enterSwitching (s : State) : State :=
  let s0 := s.setLoop fun l => { l with state := .switching }
  match s.loop.op with
  | some (.reconfigure r) => s0.switchNext r 0
  | _ => s0

/-- A timeout in SWITCHING: the SWITCH record is forgotten, the stations without an outcome keep NOT DONE, and the loop
enters SETTLING (R84). -/
def State.switchTimeout (s : State) : State :=
  match s.loop.op with
  | some (.reconfigure r) =>
    (s.setLoop fun l =>
      { l with window := [], op := some (.reconfigure { r with timedOut := r.current }) }).enterSettling
  | _ => s

/-- A station's outcome is decided: the outcome and the table record are set and the RECONFIGURE moves on (R83). -/
def State.switchDecided (s : State) (r : Reconfigure) (o : Outcome40) (st : Option StationState) : State :=
  let s1 := match st with
    | some st => s.modStation r.current fun x => { x with state := st }
    | none => s
  s1.switchNext (r.setOutcome r.current o) r.current

/-- The outcome of the SWITCH frame is handed to the RECONFIGURE (R83). -/
def State.switchOutcome (s : State) (o : FrameOutcome) : State :=
  match s.loop.op with
  | some (.reconfigure r) =>
    let bypassing := r.bypass.getLsbD r.current
    match o with
    | .reply ack _ data =>
      if ack = false then s.switchDecided r .refused (if bypassing then some .present else none)
      else if data = r.asked r.current ∧ ¬ r.resent then
        s.switchDecided r .already (some (if bypassing then .bypassed else .present))
      else s.switchDecided r .switched (some (if bypassing then .bypassed else .unknown))
    | .returned => s.switchDecided r .noStation (if bypassing then some .absent else none)
    | .checkFailure =>
      if 0 < r.retries then
        s.setLoop fun l =>
          { l with op := some (.reconfigure { r with retries := r.retries - 1, resent := true }), sendDue := true }
      else s.switchDecided r .notDone none
    | .abandoned => s
  | _ => s

/-! ### Outcomes, faults of order and recovery (R55 to R61) -/

/-- Hand a frame's outcome to its owner (R25, R83). -/
def State.hand (s : State) (owner : Owner) (o : FrameOutcome) : State :=
  match owner with
  | .context i => s.deliver i o
  | .reconfigure => s.switchOutcome o

/-- Entry to QUIET: the window is abandoned, each owner told in window order, the quiet timer started and the recovery
counted (R60). -/
def State.enterQuiet (s : State) : State :=
  let s1 := (s.setLoop fun l =>
    { l with state := .quiet, window := [], quietTimer := some (2 * s.engine.config.replyTimeout),
             afterQuiet := if l.state = .draining then .switching else .syncing }).count fun k =>
      { k with recoveries := satInc k.recoveries }
  s.loop.window.foldl (fun s r => s.hand r.owner .abandoned) s1

/-- A loss of ring order: QUIET from OPEN or DRAINING, a timeout of the SWITCH in SWITCHING, nothing elsewhere
(R57, R58, R59, R84). -/
def State.lostOrder (s : State) : State :=
  match s.loop.state with
  | .opened => s.enterQuiet
  | .draining => s.enterQuiet
  | .switching => s.switchTimeout
  | _ => s

/-- Whether the loop state matches arrivals against the window (R54). -/
def LoopState.matches (x : LoopState) : Bool := x == .opened || x == .draining || x == .switching

/-- A frame that matching cannot place: a sequence fault where frames are matched, discarded elsewhere (R54, R57). -/
def State.sequenceFault (s : State) : State :=
  if s.loop.state.matches then
    (s.count fun k => { k with sequenceFaults := satInc k.sequenceFaults }).lostOrder
  else s

/-- Remove the oldest record of the window. -/
def State.popOldest (s : State) : State := s.setLoop fun l => { l with window := l.window.tail }

/-- The receiver has framed a frame: the line-loss latch clears, and the receiver stands after the end of a frame (R59,
R182). -/
def State.framed (s : State) : State := s.setLoop fun l => { l with lineLoss := false, receiver := .between false }

/-- A REPLY with a good check arrives (R56). -/
def State.replyArrives (s : State) (sequence : BitVec 3) (station : BitVec 6) (ack ready : Bool) (data : Word) : State :=
  match s.loop.window with
  | r :: _ =>
    if s.loop.state.matches ∧ r.sequence = sequence ∧ r.frame.station = station then
      ((s.popOldest.count fun k => { k with repliesAccepted := satInc k.repliesAccepted }).hand r.owner
        (.reply ack ready data))
    else s.sequenceFault
  | [] => s.sequenceFault

/-- Whether a COMMAND or SWITCH frame can be a returned one in the loop state: COMMAND in OPEN and DRAINING, SWITCH in
SWITCHING (R54, R56). -/
def LoopState.returns (x : LoopState) (type : BitVec 3) : Bool :=
  (type == 1 && (x == .opened || x == .draining)) || (type == 5 && x == .switching)

/-- A COMMAND or SWITCH frame with a good check arrives (R56, R57). -/
def State.frameReturns (s : State) (f : LoopFrame) : State :=
  match s.loop.window with
  | r :: _ =>
    if s.loop.state.returns f.type ∧ r.frame = f then s.popOldest.hand r.owner .returned else s.sequenceFault
  | [] => s.sequenceFault

/-- Count a frame with a bad check. -/
def State.countCheck (s : State) : State := s.count fun k => { k with checkFailures := satInc k.checkFailures }

/-- A frame with a bad check arrives (R54, R55). -/
def State.badCheck (s : State) : State :=
  if s.loop.state.matches then
    match s.loop.window with
    | r :: _ => s.countCheck.popOldest.hand r.owner .checkFailure
    | [] => s.countCheck
  else if s.loop.state = .syncing ∧ s.loop.syncWaits then s.countCheck
  else s

/-- A SYNC frame arrives (R54, R57, R62). -/
def State.syncArrives (s : State) (pattern : Word) : State :=
  if s.loop.state = .syncing ∧ s.loop.syncWaits then
    if pattern = (syncFrame s.loop.attempt).data then s.enterOpen else s
  else s.sequenceFault

/-- The receiver reports line loss: it looks for a delimiter from here on (R59, R182; log entry 26). -/
def State.lineLost (s : State) : State :=
  if s.loop.lineLoss then s else (s.setLoop fun l => { l with lineLoss := true, receiver := .lost 0 0 }).lostOrder

/-- Whether the watched reply deadline runs: that of the oldest record, from the end of its transmission (R49). -/
def State.deadlineRuns (s : State) : Bool :=
  match s.loop.window with
  | r :: _ => s.loop.state.matches && r.deadline.isSome
  | [] => false

/-- The oldest record's deadline expires (R58, R84). -/
def State.deadlineExpires (s : State) : State :=
  if s.deadlineRuns then (s.count fun k => { k with replyTimeouts := satInc k.replyTimeouts }).lostOrder else s

/-- The quiet timer expires in QUIET: the loop goes to the after-quiet target, which returns to SYNCING (R61). -/
def State.quietEnds (s : State) : State :=
  let s1 := s.setLoop fun l => { l with quietTimer := none, afterQuiet := .syncing }
  match s.loop.afterQuiet with
  | .syncing => s1.enterSyncing
  | .switching => s1.enterSwitching

/-! ### Loop operations routed by the dispatcher (R65, R80) -/

/-- Why the Loop Port refuses a LOOP RESTART, none when it accepts it (R65). -/
def State.restartRefusal (s : State) : Option Result :=
  if s.loop.op.isSome then some .busy else if s.loop.state ≠ .down then some .noEffect else none

/-- Accept a LOOP RESTART (R65). -/
def State.acceptRestart (s : State) (i : Fin 40) : State :=
  ((s.setSlotState i .loopOp).setLoop fun l => { l with op := some (.restart i) }).enterSyncing

/-- Why the Loop Port refuses a RECONFIGURE, none when it accepts it (R65, R80). -/
def State.reconfigureRefusal (s : State) : Option Result :=
  if s.loop.op.isSome then some .busy
  else match s.loop.state with
    | .opened => none
    | .down => some .loopDown
    | _ => some .busy

/-- The outcomes at acceptance: NOT DONE for a listed station, UNLISTED for any other (R80). -/
def initialOutcomes (bypass restore : BitVec 64) : Vector Outcome40 40 :=
  mapTable (fun k => if (bypass ||| restore).getLsbD (k + 1) then .notDone else .unlisted) ⟨⟨List.range 40⟩, by simp⟩

/-- Accept a RECONFIGURE: the loop enters DRAINING (R80). -/
def State.acceptReconfigure (s : State) (i : Fin 40) (bypass restore : BitVec 64) : State :=
  (s.setSlotState i .loopOp).setLoop fun l =>
    { l with
      state := .draining,
      op := some (.reconfigure
        { slot := i, bypass, restore, current := 0, retries := 0, resent := false,
          outcomes := initialOutcomes bypass restore, sent := 0, timedOut := 0 }) }

/-- The Loop Port when a QUIESCE reaches STOPPED: DOWN, window empty, timers stopped; counters, arbiter, sequence counter
and attempt number kept (R46, R67). -/
def LoopPort.stop (l : LoopPort) : LoopPort :=
  { l with state := .down, window := [], op := none, afterQuiet := .syncing, quietTimer := none, settleTimer := none,
           syncTimer := none, lineLoss := false, syncWaits := false, sendDue := false }

end Sys2Proof.Machine
end

