-- ==== Sys2Proof/Machine/Cadences.lean ====
section
/-! DEFINITION. The Cadence Unit (chapter 5): triggers and misses, START, STOP and RELEASE at the cadence record, and
what a ring notice carries. Stops, boundaries and the ends of runs stand in Machine/Contexts.lean. -/

namespace Sys2Proof.Machine

open Sys2Proof

/-- The free space of a ring: S - (P - C), the difference modulo 2^32 (R93). -/
def Cadence.free (c : Cadence) : Nat := c.ringSize.toNat - (c.p - c.c).toNat

/-- A miss: it is counted, and one that brings the consecutive misses to a nonzero limit stops the cadence MISSED
(R94, R95). -/
def State.miss (s : State) (n : Fin 8) (overlap : Bool) : State :=
  let c := s.cad n
  let k := satInc c.consecutive
  let c1 : Cadence :=
    if overlap then { c with consecutive := k, overlapMisses := satInc c.overlapMisses }
    else { c with consecutive := k, spaceMisses := satInc c.spaceMisses }
  let s1 := s.setCad n c1
  if c.missLimit ≠ 0 ∧ k = c.missLimit.setWidth 32 then s1.cadenceStop n .missed else s1

/-- A trigger is taken (R93, R94). -/
def State.trigger (s : State) (n : Fin 8) : State :=
  let c := s.cad n
  match c.state with
  | .waiting =>
    if c.lmax.toNat ≤ c.free then
      (s.setCad n
        { c with state := .running, runSequence := c.runSequence + 1, runsStarted := satInc c.runsStarted,
                 consecutive := 0 }).startCadenceRun n
    else s.miss n false
  | .running => s.miss n true
  | _ => s

/-- The trigger timer expires: it is set for the next period and the trigger is taken (R92). -/
def State.triggerExpires (s : State) (n : Fin 8) : State :=
  (s.setCad n { s.cad n with trigger := some ((s.cad n).period.toNat * Config.cadenceUnit) }).trigger n

/-- The cadence record that an accepted START CADENCE sets up from its body (R91, section 11.4). -/
def Cadence.start (i : Fin 40) (b : Body) (lmax : Nat) : Cadence :=
  { Cadence.zero with
    state := .waiting, programStart := u16 b 0x18, lmax := BitVec.ofNat 32 lmax, period := u32 b 0x08,
    phase := u32 b 0x0C, ringBase := u64 b 0x00, ringSize := u32 b 0x10, interval := u32 b 0x14,
    missLimit := u8 b 0x1B, nextBoundary := u32 b 0x14, startSlot := i,
    trigger := some ((u32 b 0x0C).toNat * Config.cadenceUnit) }

/-- Accept a START CADENCE: hold, record, slot and timer are set, and with phase 0 the first trigger is taken in the
same event (R91, R92). -/
def State.acceptStart (s : State) (i : Fin 40) (n : Fin 8) (b : Body) (last lmax : Nat) : State :=
  let s1 := ((s.placeHold (contextOf n) { first := (u16 b 0x18).toNat, last }).setCad n
    (Cadence.start i b lmax)).setSlotState i .cadence
  if u32 b 0x0C = 0 then s1.triggerExpires n else s1

/-- Whether a new consumer index lies in C to P, modulo 2^32 (R101). -/
def Cadence.releases (c : Cadence) (index : Word) : Bool := decide ((index - c.c).toNat ≤ (c.p - c.c).toNat)

/-- Whether some notice is owed (R100). -/
def State.anyOwed (s : State) : Bool := s.cadences.toList.any Cadence.owed

/-- The lowest-numbered cadence with notice owed set (R116). -/
def State.owing (s : State) : Option (Fin 8) := ((List.range 8).map (Fin.ofNat 8)).find? fun n => (s.cad n).owed

/-- The body of a RING NOTICE (R100, R118, section 11.8). -/
def State.ringNotice (s : State) (n : Fin 8) : List Byte :=
  let c := s.cad n
  le 1 n.val ++ zeros 3 ++ le32 (c.nextBoundary - c.interval) ++ le32 c.runSequence ++ le32 c.overlapMisses ++
    le32 c.spaceMisses ++ le32 s.engine.timeBase ++ zeros 72

/-- The Cadence Unit takes the news of DOWN: every cadence told of it that is not IDLE stops with reason LOOP DOWN, in a
free order (R106, R152, log entries 5 and 14). -/
def State.loopDownStops (s : State) : State :=
  let told := ((List.range 8).map (Fin.ofNat 8)).filter fun n => (s.cad n).downNotice
  let s1 := { s with cadences := mapTable (fun c => { c with downNotice := false }) s.cadences }
  (freeOrder s1 told).foldl (fun s n => s.cadenceStop n .loopDown) (s1.chose told)

end Sys2Proof.Machine
end

