-- ==== Sys2Proof/Machine/AttentionUnit.lean ====
section
/-! DEFINITION. The Attention Unit (sections 6.1 to 6.3): arrivals, merges, SET ATTENTION at the set, and what an
attention notice carries. -/

namespace Sys2Proof.Machine

open Sys2Proof

/-- Whether some entry is WAITING. -/
def State.anyWaiting (s : State) : Bool := s.attention.any fun e => !e.held

/-- The number of WAITING entries. -/
def waitingCount (l : List Attention) : Nat := (l.filter fun e => !e.held).length

/-- The number of HELD entries. -/
def heldCount (l : List Attention) : Nat := (l.filter fun e => e.held).length

/-- An arrival merged into an entry (R111). -/
def Attention.merge (e : Attention) (code : Word) : Attention :=
  { e with lastCode := code, repeats := if e.repeats = 255 then 255 else e.repeats + 1 }

/-- The attention set after an arrival: merged into the station's entry, or appended at the tail (R111). -/
def mergeAttention (l : List Attention) (new : Attention) : List Attention :=
  if l.any (fun e => e.station == new.station) then
    l.map fun e => if e.station = new.station then e.merge new.lastCode else e
  else l ++ [new]

/-- The Attention Unit takes an ATTENTION (R110, R111). -/
def State.takeAttention (s : State) (station : BitVec 6) (code : Word) : State :=
  let s1 := s.count fun k => { k with attentionsReceived := satInc k.attentionsReceived }
  if 1 ≤ station.toNat ∧ station.toNat ≤ 40 then
    let s2 :=
      if s.attention.any (fun e => e.station == station) then
        s1.count fun k => { k with attentionsMerged := satInc k.attentionsMerged }
      else s1
    let new : Attention :=
      { station, firstCode := code, lastCode := code, repeats := 1, arrival := s.engine.timeBase,
        held := !(s.station station.toNat).attention }
    { s2 with attention := mergeAttention s.attention new }
  else s1

/-- Whether the receiver hands an ATTENTION frame on (R54). -/
def LoopPort.takesAttention (l : LoopPort) : Bool := l.state.matches || (l.state == .syncing && l.syncWaits)

/-- An ATTENTION frame with a good check arrives (R54, R110). -/
def State.attentionArrives (s : State) (station : BitVec 6) (code : Word) : State :=
  if s.loop.takesAttention then s.takeAttention station code else s

/-- An entry after the enable set and then the disable set (R113). -/
def Attention.setHeld (e : Attention) (enable disable : BitVec 64) : Attention :=
  { e with held := if disable.getLsbD e.station.toNat then true
      else if enable.getLsbD e.station.toNat then false else e.held }

/-- A station record of address `a` after the two sets (R113). -/
def Station.setAttention (x : Station) (a : Nat) (enable disable : BitVec 64) : Station :=
  { x with attention := if disable.getLsbD a then false else if enable.getLsbD a then true else x.attention }

/-- Apply a function to every element of a table with its place. -/
def mapPlaces {α : Type} {n : Nat} (f : Nat → α → α) (v : Vector α n) : Vector α n :=
  ⟨⟨(v.toList.zipIdx).map fun x => f x.2 x.1⟩, by simp⟩

/-- SET ATTENTION's effect on the flags and the entries, with the number of entries discarded (R113). -/
def State.setAttention (s : State) (enable disable : BitVec 64) (discard : Bool) : State × Nat :=
  let entries := s.attention.map fun e => e.setHeld enable disable
  let kept := if discard then entries.filter fun e => !e.held else entries
  ({ s with stations := mapPlaces (fun k x => x.setAttention (k + 1) enable disable) s.stations, attention := kept },
    entries.length - kept.length)

/-- The body of an ATTENTION NOTICE for an entry that has left the set `l` (R117, section 11.8). -/
def Attention.noticeBody (e : Attention) (l : List Attention) (now : Word) : List Byte :=
  le 1 e.repeats.toNat ++ le 1 (waitingCount l) ++ le 1 (heldCount l) ++ zeros 1 ++ le32 e.arrival ++ le32 now ++ zeros 84

end Sys2Proof.Machine
end

