-- ==== Sys2Proof/Machine/QueueUnit.lean ====
section
/-! DEFINITION. The Queue Unit (chapter 7): asking for an operation, claims, backoff, pause and stall, the header and
link checks, the writes of a removal and an insertion, and the release. What the requesters do with a report is in
Machine/Intake.lean. -/

namespace Sys2Proof.Machine

open Sys2Proof

/-- The three queues. -/
def allQueues : List Queue := [.request, .done, .spare]

/-- Ask for an operation of a queue: for an insertion the frame's next link is first written 0; the claim is issued at
the end of the event, or deferred (R124, R126, R131). The write comes in this event even when the claim has to wait (DESIGN
CHOICE, log entry 42). `frame` is 0 for a removal. Asked for while the release of the queue's
previous operation is outstanding, it takes that operation's place, and the lock alone keeps the release (R125, R129; DEDUCED,
log entry 41). -/
def State.askOp (s : State) (q : Queue) (frame : Nat) : State :=
  let s1 := if frame = 0 then s else s.post (s.frameAddr frame) (zeros 4)
  s1.setOp q (some { phase := .deferred, attempt := 1, timer := none, stall := none, stalled := false, frame })

/-- Whether an operation's phase meets a test. -/
def State.phaseIs (s : State) (q : Queue) (f : Phase → Bool) : Bool :=
  match s.queues.op q with
  | some o => f o.phase
  | none => false

/-- Whether a phase is CLAIMING. -/
def Phase.isClaiming : Phase → Bool
  | .claiming _ => true
  | _ => false

/-- The queues whose claim is due and not issued. -/
def State.deferredQueues (s : State) : List Queue := allQueues.filter fun q => s.phaseIs q (· == .deferred)

/-- Whether a claim may be issued: no lock held, no release and no claim outstanding (R124). -/
def State.mayClaim (s : State) : Bool := s.queues.lock.isNone && !(allQueues.any fun q => s.phaseIs q Phase.isClaiming)

/-- Issue a queue's claim: a compare-and-swap that expects 0 and writes 2 (R124). -/
def State.claim (s : State) (q : Queue) : State :=
  match s.queues.op q with
  | some o => (s.access fun acc => .compareSwap acc (s.headerAddr q) 0 2).setOp q
      (some { o with phase := .claiming s.link.nextAcc })
  | none => s

/-- Issue a claim that is due, any one of them when several are (R124, log entry 5). -/
def State.issueClaims (s : State) : State :=
  if s.mayClaim then
    match freeOrder s s.deferredQueues with
    | [] => s
    | q :: _ => (s.chose s.deferredQueues).claim q
  else s

/-- The queue whose operation stands in a phase with this access number outstanding. -/
def State.awaiting (s : State) (f : Phase → Option Nat) (acc : Nat) : Option Queue :=
  allQueues.find? fun q => s.phaseIs q fun p => f p == some acc

/-- The access a claim waits for. -/
def Phase.claim : Phase → Option Nat
  | .claiming a => some a
  | _ => none

/-- The access a header read waits for. -/
def Phase.header : Phase → Option Nat
  | .readingHeader a => some a
  | _ => none

/-- The access a link read waits for. -/
def Phase.link : Phase → Option Nat
  | .readingLink a _ _ _ => some a
  | _ => none

/-- Issue the release of a queue's lock, with the fault that is to follow it, if any (R129, R133, R134). -/
def State.releaseLock (s : State) (q : Queue) (fault : Option PendingFault) : State :=
  let s1 := s.access fun acc => .compareSwap acc (s.headerAddr q) 2 0
  let o := (s.queues.op q).map fun o => { o with phase := .releasing }
  { s1 with queues := { s1.queues.setOp q o with lock := some { queue := q, release := some s.link.nextAcc, fault } } }

/-- A failed attempt: back off for 2n microseconds, the stall timer running from the first failure (R126, R127,
R128). -/
def QueueOp.fail (o : QueueOp) : QueueOp :=
  { o with phase := .backingOff, timer := some (2 * o.attempt),
           stall := if o.stalled then none else o.stall.or (some Config.stallTime) }

/-- A claim's outcome arrives (R126). -/
def State.claimOutcome (s : State) (acc : Nat) (found : Option Word) : State :=
  match s.awaiting Phase.claim acc with
  | none => s
  | some q =>
    match s.queues.op q, found with
    | none, _ => s
    | _, none => s.raise { code := .hostReadFault, detail := queueDetail (some q) 0 }
    | some o, some w =>
      if w = 0 then
        let s1 := s.access fun a => .read a (s.headerAddr q + 4) 12
        { s1 with queues :=
          { s1.queues.setOp q
              (some { o with phase := .readingHeader s.link.nextAcc, timer := none, stall := none, stalled := false }) with
            lock := some { queue := q, release := none, fault := none } } }
      else if w = 1 ∨ w = 2 then s.setOp q (some o.fail)
      else s.raise { code := .queueDamaged, detail := queueDetail (some q) 0 }

/-- The backoff expires: the next attempt falls due, or the try ends in the contention pause (R127). -/
def State.backoffExpires (s : State) (q : Queue) : State :=
  match s.queues.op q with
  | some o =>
    if o.phase = .backingOff then
      if o.attempt < Config.lockAttempts then
        s.setOp q (some { o with phase := .deferred, attempt := o.attempt + 1, timer := none })
      else s.setOp q (some { o with phase := .paused, timer := some Config.contentionPause })
    else s
  | none => s

/-- The contention pause expires: a new try begins with attempt 1 (R127). -/
def State.contentionExpires (s : State) (q : Queue) : State :=
  match s.queues.op q with
  | some o =>
    if o.phase = .paused then s.setOp q (some { o with phase := .deferred, attempt := 1, timer := none }) else s
  | none => s

/-- The stall timer expires: the operation is stalled and the STALL cause set (R128). -/
def State.stallExpires (s : State) (q : Queue) : State :=
  match s.queues.op q with
  | some o =>
    if o.stall.isSome then (s.setOp q (some { o with stall := none, stalled := true })).setCause .stall else s
  | none => s

/-! ### Checks (R132) -/

/-- The frame index a failed header check names, none when every check passes, in the table's order: agreement, count,
range and room name 0, not-already-queued the frame to insert (R132). `frame` is 0 for a removal. -/
def headerCheck (n : Word) (frame : Nat) (head tail count : Word) : Option Nat :=
  if (head = 0) ≠ (tail = 0) then some 0
  else if (count = 0) ≠ (head = 0) then some 0
  else if n.toNat < head.toNat ∨ n.toNat < tail.toNat ∨ n.toNat < count.toNat then some 0
  else if frame ≠ 0 ∧ count = n then some 0
  else if frame ≠ 0 ∧ (frame = head.toNat ∨ frame = tail.toNat) then some frame
  else none

/-- Whether a removal's link read passes its checks; they name the head frame (R132). -/
def removalLinkOk (n head tail count link : Word) : Bool :=
  decide (link.toNat ≤ n.toNat) &&
    if link = 0 then decide (tail = head) && decide (count = 1)
    else decide (tail ≠ head) && decide (link ≠ head) && decide (2 ≤ count.toNat)

/-- A fault of a malformed queue (R133). -/
def damaged (q : Queue) (index : Nat) : PendingFault :=
  { code := .queueDamaged, detail := queueDetail (some q) index }

/-- Report of an operation to its requester (R130, R131). -/
inductive Report where
  | empty
  | frame (index : Nat)
  | inserted (wasEmpty : Bool)
deriving DecidableEq, Repr

/-- The writes of an insertion of frame `f` into an empty queue (R131). -/
def State.insertFirst (s : State) (q : Queue) (f : Nat) : State :=
  let a := s.headerAddr q
  ((s.post (a + 4) (le 4 f)).post (a + 8) (le 4 f)).post (a + 12) (le 4 1)

/-- The writes of an insertion behind the tail frame (R131). -/
def State.insertBehind (s : State) (q : Queue) (f : Nat) (tail count : Word) : State :=
  let a := s.headerAddr q
  ((s.post (s.frameAddr tail.toNat) (le 4 f)).post (a + 8) (le 4 f)).post (a + 12) (le32 (count + 1))

/-- The writes of a removal (R130). -/
def State.unlink (s : State) (q : Queue) (link count : Word) : State :=
  let a := s.headerAddr q
  let s1 := s.post (a + 4) (le32 link)
  let s2 := if link = 0 then s1.post (a + 8) (zeros 4) else s1
  s2.post (a + 12) (le32 (count - 1))

/-- The header read of a queue's operation arrives (R130, R131, R133): what it leaves and what it reports, if the
operation's work ends here. -/
def State.headerArrives (s : State) (q : Queue) (o : QueueOp) (head tail count : Word) : State × Option Report :=
  match headerCheck s.engine.config.frameCount o.frame head tail count with
  | some k => (s.releaseLock q (some (damaged q k)), none)
  | none =>
    let next : Word := if o.frame = 0 then head else tail
    if next = 0 then
      if o.frame = 0 then (s.releaseLock q none, some .empty)
      else ((s.insertFirst q o.frame).releaseLock q none, some (.inserted true))
    else
      ((s.access fun a => .read a (s.frameAddr next.toNat) 4).setOp q
        (some { o with phase := .readingLink s.link.nextAcc head tail count }), none)

/-- The link read of a queue's operation arrives (R130, R131, R133). -/
def State.linkArrives (s : State) (q : Queue) (o : QueueOp) (head tail count link : Word) : State × Option Report :=
  if o.frame = 0 then
    if removalLinkOk s.engine.config.frameCount head tail count link then
      ((s.unlink q link count).releaseLock q none, some (.frame head.toNat))
    else (s.releaseLock q (some (damaged q head.toNat)), none)
  else if link = 0 then ((s.insertBehind q o.frame tail count).releaseLock q none, some (.inserted false))
  else (s.releaseLock q (some (damaged q tail.toNat)), none)

/-- A header or link read under the lock has failed: the release is issued, and HOST READ FAULT follows it (R134). -/
def State.queueReadFails (s : State) (acc : Nat) : State :=
  match s.awaiting Phase.header acc with
  | some q => s.releaseLock q (some { code := .hostReadFault, detail := queueDetail (some q) 0 })
  | none =>
    match s.awaiting Phase.link acc with
    | some q =>
      match s.queues.op q with
      | some { phase := .readingLink _ head tail _, frame, .. } =>
        s.releaseLock q
          (some { code := .hostReadFault, detail := queueDetail (some q) (if frame = 0 then head else tail).toNat })
      | _ => s
    | none => s

/-- The release's outcome arrives: the lock is free and the fault that was to follow is raised, or LOCK RELEASE FAULT is
raised (R129, R133, R134). -/
def State.releaseOutcome (s : State) (acc : Nat) (found : Option Word) : State :=
  match s.queues.lock with
  | some { queue := q, release := some a, fault } =>
    if a = acc then
      if found = some 2 then
        let o := (s.queues.op q).bind fun o => if o.phase = .releasing then none else some o
        let s1 := { s with queues := { s.queues.setOp q o with lock := none } }
        match fault with
        | some f => s1.raise f
        | none => s1
      else s.raise { code := .lockReleaseFault, detail := queueDetail (some q) 0 }
    else s
  | _ => s

end Sys2Proof.Machine
end

