-- ==== Sys2Proof/Machine/Intake.lean ====
section
/-! DEFINITION. Intake (chapter 8) but for the dispatcher: the taker, the notice engine (section 6.4), the poster and the
pending list, what each does with the Queue Unit's report, and what follows at the end of an event (R10, R50, R75, R81,
R115, R141, R148, R154, R162; log entry 18). -/

namespace Sys2Proof.Machine

open Sys2Proof

/-- Change Intake. -/
def State.setIntake (s : State) (f : Intake → Intake) : State := { s with intake := f s.intake }

/-- Change the notice engine. -/
def State.setNotice (s : State) (f : NoticeEngine → NoticeEngine) : State := { s with notice := f s.notice }

/-! ### Taker (R141, R142) -/

/-- The taker has a look to make: it is BLOCKED until it begins, or IDLE when the engine is not RUNNING (R141). -/
def State.takerLook (s : State) : State :=
  s.setIntake fun x => { x with taker := if s.engine.state = .running then .blocked else .idle }

/-- The taker when its frame has left TAKEN: a look to make (R141, R142). -/
def State.takerAfter (s : State) : State :=
  if s.intake.taker = .dispatching ∧ s.anyTaken = false then s.takerLook else s

/-- Whether the taker may begin a removal (R141). -/
def State.takerReady (s : State) : Bool :=
  s.engine.state == .running && s.intake.taker == .blocked && !s.anyTaken &&
    decide (s.intake.pendingList.length < Config.pendingSize) && decide (Config.takerReserve ≤ s.available)

/-- The taker begins a removal (R141). -/
def State.takerBegin (s : State) : State :=
  (s.setIntake fun x => { x with taker := .looking, promptSeen := false }).askOp .request 0

/-- A PROMPT naming the request queue (R142). -/
def State.takerPrompt (s : State) : State :=
  if s.engine.state = .running then
    match s.intake.taker with
    | .idle => s
    | .asleep => s.takerLook
    | _ => s.setIntake fun x => { x with promptSeen := true }
  else s

/-- A removal from the request queue reports empty: with prompt-seen set it is cleared and the taker has a look to make;
otherwise the taker sleeps, or is IDLE in QUIESCING (R142). -/
def State.takerEmpty (s : State) : State :=
  if s.intake.promptSeen then (s.setIntake fun x => { x with promptSeen := false }).takerLook
  else s.setIntake fun x => { x with taker := if s.engine.state = .running then .asleep else .idle }

/-- A removal reports a frame that is already in custody (R143). -/
def State.foundTwice (s : State) (q : Queue) (k : Nat) : State := s.raise (damaged q k)

/-- Place a frame in the lowest-numbered free slot (R138, R143). -/
def State.place (s : State) (x : Slot) : State :=
  match s.lowestFree with
  | some i => s.setSlot i (some x)
  | none => s

/-- A removal from the request queue reports a frame: it is TAKEN and the read of its 128 bytes is issued
(R143, R144). -/
def State.takerFrame (s : State) (k : Nat) : State :=
  if s.inCustody k then s.foundTwice .request k
  else
    ((s.place { index := k, spare := false, state := .taken, record := none, readyNumber := 0,
                readAcc := some s.link.nextAcc }).setIntake fun x => { x with taker := .dispatching }).access
      fun acc => .read acc (s.frameAddr k) 128

/-! ### Notice engine (R114 to R120) -/

/-- Whether some notice is due (R115). -/
def State.noticeDue (s : State) : Bool := s.anyOwed || s.anyWaiting

/-- Whether the engine may begin a removal, the spares episode apart (R115). -/
def State.noticeAble (s : State) : Bool :=
  s.engine.state == .running && s.noticeDue && !s.notice.removing && decide (1 ≤ s.available)

/-- Begin a removal from the spare queue (R115). A prompt-seen left set is cleared, whatever begins the removal (R119; log
entry 37). -/
def State.noticeBegin (s : State) : State :=
  (s.setNotice fun x => { x with removing := true, promptSeen := false }).askOp .spare 0

/-- Whether this event made a notice due, or brought the engine to RUNNING (R115, R119). A boundary that finds notice owed
set makes none due (log entry 38). -/
def State.noticeNews (s before : State) : Bool :=
  ((List.range 8).any fun k =>
    (s.cad (Fin.ofNat 8 k)).owed && !(before.cad (Fin.ofNat 8 k)).owed) ||
  (s.attention.any fun e => !e.held && !(before.attention.any fun e' => e'.station == e.station && !e'.held)) ||
  (before.engine.state != .running && s.engine.state == .running)

/-- Whether the engine begins a removal at the end of the event: always when it may outside a spares episode, and within
one on news or on prompt-seen (R115, R119). -/
def State.noticeReady (s before : State) : Bool :=
  s.noticeAble && (!s.notice.episode || s.noticeNews before || s.notice.promptSeen)

/-- A PROMPT naming the spare queue (R119; log entry 15). -/
def State.noticePrompt (s : State) : State :=
  if s.engine.state = .running then
    if s.notice.removing then s.setNotice fun x => { x with promptSeen := true }
    else if s.noticeDue then
      if 1 ≤ s.available then s.noticeBegin
      else if s.notice.episode then s.setNotice fun x => { x with promptSeen := true }
      else s
    else s
  else s

/-- A removal from the spare queue reports empty: an episode begins or continues. A prompt-seen that is set stands for one
more look at the end of the event when a notice is due and a slot is free, and is cleared otherwise (R119, R140). -/
def State.noticeEmpty (s : State) : State :=
  let s1 := s.setNotice fun _ => { removing := false, promptSeen := false, episode := true }
  let s2 := if s.notice.episode then s1 else s1.setCause .spares
  s2.setNotice fun x => { x with promptSeen := s.notice.promptSeen && s2.noticeAble }

/-- Write a notice into a spare frame: kind and result fields, counts, and the whole body (R116, R117, R118). -/
def State.writeNotice (s : State) (k kind : Nat) (d : DoneRecord) (body : List Byte) : State :=
  let a := s.frameAddr k
  let s1 := s.post (a + 0x04) (le 1 kind ++ le 1 d.result ++ le 1 d.stepError ++ le 1 d.station)
  (s1.post (a + 0x10) (le32 d.countA ++ le32 d.countB ++ le 2 d.stepIndex)).post (a + 0x20) body

/-- Fill a spare frame with the notice of highest precedence: the lowest owing cadence's ring notice, but none in
QUIESCING, else the oldest WAITING entry, else an empty notice (R116, R120; log entry 39). -/
def State.fillNotice (s : State) (k : Nat) : State :=
  match if s.engine.state = .quiescing then none else s.owing with
  | some n =>
    (s.writeNotice k ringNoticeKind { result := Result.done.code, countA := (s.cad n).p, countB := (s.cad n).c }
      (s.ringNotice n)).setCad n { s.cad n with owed := false }
  | none =>
    match s.attention.find? fun e => !e.held with
    | some e =>
      let left := s.attention.filter fun x => x.station != e.station
      { s.writeNotice k attentionNoticeKind
          { result := Result.done.code, station := e.station.toNat, countA := e.firstCode, countB := e.lastCode }
          (e.noticeBody left s.engine.timeBase) with attention := left }
    | none => s.writeNotice k attentionNoticeKind { result := Result.noEffect.code } (zeros 96)

/-- A removal from the spare queue reports a frame: it is filled, placed and marked READY, and the episode ends
(R116, R143). -/
def State.noticeFrame (s : State) (k : Nat) : State :=
  if s.inCustody k then s.foundTwice .spare k
  else
    let s1 := (s.fillNotice k).setNotice fun _ => { removing := false, promptSeen := false, episode := false }
    match s.lowestFree with
    | some i =>
      (s1.setSlot i (some
        { index := k, spare := true, state := .taken, record := none, readyNumber := 0, readAcc := none })).markReady i
    | none => s1

/-! ### Poster (R154) -/

/-- How far a slot's ready order number lies behind the ready counter, modulo 2^32; none for a slot not READY (R152). -/
def State.readyAge (s : State) (i : Fin 40) : Option Nat :=
  match s.slot i with
  | some x => if x.state = .ready then some (s.intake.readyCounter - x.readyNumber).toNat else none
  | none => none

/-- The READY slot with the lowest ready order number: the one farthest behind the counter (R152, R154). -/
def State.oldestReady (s : State) : Option (Fin 40) :=
  ((List.range 40).map (Fin.ofNat 40)).foldl (fun best i =>
    match s.readyAge i, best with
    | none, _ => best
    | some _, none => some i
    | some a, some j => if (s.readyAge j).getD 0 < a then some i else best) none

/-- The poster asks for its next insertion (R154). -/
def State.post1 (s : State) : State :=
  if s.active ∧ s.intake.posting = none then
    match s.oldestReady with
    | some i =>
      match s.slot i with
      | some x => (s.setIntake fun y => { y with posting := some i }).askOp .done x.index
      | none => s
    | none => s
  else s

/-- The Queue Unit reports the insertion: the slot is freed, and an insertion into an empty queue sets DONE (R154). -/
def State.posted (s : State) (wasEmpty : Bool) : State :=
  let s1 := match s.intake.posting with
    | some i => s.setSlot i none
    | none => s
  let s2 := s1.setIntake fun x => { x with posting := none }
  if wasEmpty then s2.setCause .done else s2

/-! ### Reports (R130, R131) -/

/-- A requester takes the report of its operation. -/
def State.report (s : State) (q : Queue) (r : Report) : State :=
  match q, r with
  | .request, .empty => s.takerEmpty
  | .request, .frame k => s.takerFrame k
  | .spare, .empty => s.noticeEmpty
  | .spare, .frame k => s.noticeFrame k
  | .done, .inserted e => s.posted e
  | _, _ => s

/-- What a header or link read leaves, with the report taken. -/
def State.reported (q : Queue) (x : State × Option Report) : State :=
  match x.2 with
  | some r => x.1.report q r
  | none => x.1

/-- A header read arrives (R130, R131, R132). -/
def State.headerOutcome (s : State) (acc : Nat) (head tail count : Word) : State :=
  match s.awaiting Phase.header acc with
  | some q =>
    match s.queues.op q with
    | some o => State.reported q (s.headerArrives q o head tail count)
    | none => s
  | none => s

/-- A link read arrives (R130, R131, R132). -/
def State.linkOutcome (s : State) (acc : Nat) (link : Word) : State :=
  match s.awaiting Phase.link acc with
  | some q =>
    match s.queues.op q with
    | some { phase := .readingLink a head tail count, attempt, timer, stall, stalled, frame } =>
      State.reported q
        (s.linkArrives q { phase := .readingLink a head tail count, attempt, timer, stall, stalled, frame } head tail
          count link)
    | _ => s
  | none => s

/-! ### End of an event -/

/-- The taker and the notice engine begin what they may; when both may and the count leaves the taker with just its
reserve, either comes first (R140, log entry 5). -/
def State.beginRemovals (s before : State) : State :=
  let notice (s : State) : State := if s.noticeReady before then s.noticeBegin else s
  let taker (s : State) : State := if s.takerReady then s.takerBegin else s
  if s.takerReady && s.noticeReady before && s.available == Config.takerReserve then
    if (freeOrder s [true, false]).head? = some true then notice (taker (s.chose [true, false]))
    else taker (notice (s.chose [true, false]))
  else notice (taker s)

/-- The engine when it reaches STOPPED at the end of a QUIESCE: the loop goes DOWN and the taker is IDLE (R67, R162). -/
def State.stopEngine (s : State) : State :=
  { s with engine := { s.engine with state := .stopped }, loop := s.loop.stop,
           intake := { s.intake with taker := .idle } }

/-- Whether a QUIESCING engine has reached its end (R162). -/
def State.quiesced (s : State) : Bool :=
  s.engine.state == .quiescing && s.intake.custody.toList.all Option.isNone && s.intake.taker != .looking &&
    !s.notice.removing && s.queues.lock.isNone

/-- Reach STOPPED when the last condition of a QUIESCE has come about (R162). -/
def State.completeQuiesce (s : State) : State := if s.quiesced then s.stopEngine else s

/-- What follows at Intake and the Queue Unit at the end of an event (R115, R124, R141, R154, R162). -/
def State.settleIntake (s before : State) : State :=
  if s.active then (((s.takerAfter.post1).beginRemovals before).issueClaims).completeQuiesce else s

/-- The head of the pending list, if there is one, leaves it and starts in a request context (R148). -/
def State.startHead (s : State) (i : CtxId) : State :=
  match s.intake.pendingList with
  | [] => s
  | slot :: rest => (s.setIntake fun x => { x with pendingList := rest }).startRequest i slot

/-- Whether a grant may still take a context in this event, and would lapse (R24, R50). -/
def State.mayLapse (s : State) (i : CtxId) : Bool :=
  s.canGrant && (s.ctx i).eligible && (s.station (s.ctx i).elem.station.toNat).state == .bypassed

/-- Start the head of the pending list in the request context that is IDLE; with both IDLE, the head starts in A and the
next entry in B, even if the head ends in the event. While the other context may yet return to IDLE in the event, by a grant
that lapses, nothing starts (R148). -/
def State.startPending (s : State) : Option State :=
  if s.intake.pendingList = [] then none
  else if (s.ctx ctxA).state = .idle then
    if (s.ctx ctxB).state = .idle then some ((s.startHead ctxA).startHead ctxB)
    else if s.mayLapse ctxB then none
    else some (s.startHead ctxA)
  else if (s.ctx ctxB).state = .idle then
    if s.mayLapse ctxA then none else some (s.startHead ctxB)
  else none

/-- The request contexts in CHECKING that what they wait for no longer holds back: a RUN's prepass by a load, a SURVEY's
walk by a loop operation (R10, R75). -/
def State.released (s : State) : List CtxId :=
  [ctxA, ctxB].filter fun i =>
    let c := s.ctx i
    c.state == .checking &&
      ((c.job == .run && s.store.load.isNone) || (c.job == .survey && s.loop.op.isNone))

/-- A released context goes on (R10, R38, R75). -/
def State.releaseCtx (s : State) (i : CtxId) : State :=
  match (s.ctx i).job with
  | .run => s.runPrepass i
  | .survey => s.surveyStart i
  | _ => s

/-- One thing that an event has made possible at the contexts or the Loop Port, none when nothing is left: a released
context goes on, a pending request starts, DRAINING ends, a SYNC or SWITCH frame is sent, a grant is made (R10, R47,
R50, R75, R81, R148). -/
def State.turn (s : State) : Option State :=
  match freeOrder s s.released with
  | i :: _ => some ((s.chose s.released).releaseCtx i)
  | [] =>
    match s.startPending with
    | some s1 => some s1
    | none =>
      if s.loop.state = .draining ∧ s.loop.window = [] then some s.enterSwitching
      else if s.loop.sendDue ∧ s.loop.transmitting = none then some s.sendOwn
      else s.grant

/-- Take turns until none is left; the first argument bounds them (log entry 19). -/
def progress : Nat → State → State
  | 0, s => s
  | fuel + 1, s =>
    match s.turn with
    | some s1 => progress fuel s1
    | none => s

/-- The slots that are READY and were not READY in `before` (R152). -/
def State.newlyReady (s before : State) : List (Fin 40) :=
  ((List.range 40).map (Fin.ofNat 40)).filter fun i => (s.readyAge i).isSome && (before.readyAge i).isNone

/-- The blocks that mark request frames READY in an event (R152). -/
inductive Marker where
  | contextArray
  | cadenceUnit
  | loopPort
  | programStore
  | dispatcher
deriving DecidableEq, Repr

/-- The block that marks a request frame READY, by its kind: LOAD PROGRAM the Program Store, RUN, EXCHANGE and SURVEY the Context
Array, START CADENCE the Cadence Unit, RECONFIGURE and LOOP RESTART the Loop Port, every other the dispatcher (R8, R39, R41,
R66, R77, R85, R105, R145). -/
def markerOf (kind : Byte) : Marker :=
  if kind = 1 then .programStore
  else if kind = 2 ∨ kind = 3 ∨ kind = 7 then .contextArray
  else if kind = 4 then .cadenceUnit
  else if kind = 8 ∨ kind = 10 then .loopPort
  else .dispatcher

/-- Give a slot a ready order number. -/
def State.setReadyNumber (s : State) (i : Fin 40) (n : Word) : State :=
  match s.slot i with
  | some x => s.setSlot i (some { x with readyNumber := n })
  | none => s

/-- The ready order numbers that one event has given out are taken in a free order, but for the order that a rule gives:
markings of one block keep theirs, and so do those of the command's own effect, which `direct` has (R152; log entries 5 and
34). -/
def State.reorderMarks (s direct before : State) : State :=
  if s.newlyReady direct = [] then s
  else
    let marked := s.newlyReady before
    let earlier (i j : Fin 40) : Bool := decide ((s.readyAge j).getD 0 < (s.readyAge i).getD 0)
    let own (i : Fin 40) : Bool := (direct.readyAge i).isSome
    let marker (i : Fin 40) : Option Marker := (s.recordOf i).map fun r => markerOf r.kind
    let kept (i j : Fin 40) : Bool := earlier i j && ((own i && own j) || marker i == marker j)
    let order := arrangeBy kept marked.length s.choices marked
    let numbers := (arrangeBy earlier marked.length 0 marked).1.map fun i => (s.slot i).map Slot.readyNumber
    (order.1.zip numbers).foldl (fun t x => t.setReadyNumber x.1 (x.2.getD 0)) { s with choices := order.2 }

/-- What follows at the end of an event at every block (log entry 18). -/
def State.settle (s before : State) : State :=
  if s.active then ((progress Config.eventBound s).reorderMarks s before).settleIntake before else s

end Sys2Proof.Machine
end

