-- ==== Sys2Proof/Machine/Operands.lean ====
section
/-! DEFINITION. The operands of the requests: the field checks of each request body (section 11.4 and the chapter of each
kind), the window check (R145), and the station sets. Each check answers whether the body passes. -/

namespace Sys2Proof.Machine

open Sys2Proof

/-- The area from an address for a length lies wholly inside one valid permitted window with the access it needs; a
length of zero is not checked (R145). -/
def State.inWindow (s : State) (readWrite : Bool) (addr : Addr) (length : Nat) : Bool :=
  length == 0 || s.engine.config.windows.any fun w =>
    w.valid && (!readWrite || w.readWrite) && decide (w.base ≤ addr.toNat) &&
      decide (addr.toNat + length ≤ w.base + w.length)

/-- Whether an address is a multiple of `n`. -/
def multipleOf (addr : Addr) (n : Nat) : Bool := addr.toNat % n == 0

/-- LOAD PROGRAM: destination start (R6). -/
def loadDest (b : Body) : Nat := (u16 b 0x08).toNat

/-- LOAD PROGRAM: step count (R6). -/
def loadCount (b : Body) : Nat := (u16 b 0x0A).toNat

/-- The fields of a LOAD PROGRAM (R6). -/
def loadFieldsOk (b : Body) : Bool :=
  decide (loadDest b ≤ 2047) && decide (1 ≤ loadCount b) && decide (loadCount b ≤ 2048) &&
    decide (loadDest b + loadCount b ≤ 2048) && zeroAt b 0x0C 84

/-- The fields of a RUN (R37). -/
def runFieldsOk (b : Body) : Bool :=
  decide ((u16 b 0x18).toNat ≤ 2047) && multipleOf (u64 b 0x00) 16 && multipleOf (u64 b 0x08) 4 &&
    !(u32 b 0x10 == 0 && u64 b 0x00 != 0) && !(u32 b 0x14 == 0 && u64 b 0x08 != 0) && zeroAt b 0x1A 2 &&
    zeroAt b 0x20 64

/-- The windows of a RUN (R37). -/
def State.runWindowsOk (s : State) (b : Body) : Bool :=
  s.inWindow true (u64 b 0x00) (16 * (u32 b 0x10).toNat) && s.inWindow false (u64 b 0x08) (4 * (u32 b 0x14).toNat)

/-- The step of an EXCHANGE body passes the step test, is of kind EXCHANGE and takes its data INLINE (R40). -/
def exchangeStepOk (b : Body) : Bool :=
  match Step.ofImage (b.extractLsb' 0 128) with
  | some (.exchange e) => !e.access.isInput
  | _ => false

/-- What an EXCHANGE is refused with, if anything: BAD STEP for its step, BAD FIELD for the body outside it; with both
defects either, as the part has it (R40, log entry 6). -/
def exchangeRefusal (b : Body) : Option Result :=
  if exchangeStepOk b then (if zeroAt b 0x10 80 then none else some .badField)
  else if zeroAt b 0x10 80 then some .badStep
  else if Config.exchangeStepFirst then some .badStep
  else some .badField

/-- Whether a ring size is a power of two from 16 to 1,048,576 (R89). -/
def ringSizeOk (w : Word) : Bool := ((List.range 17).map fun k => 16 * 2 ^ k).contains w.toNat

/-- The fields of a START CADENCE (R89). -/
def startFieldsOk (b : Body) : Bool :=
  decide ((u8 b 0x1A).toNat ≤ 7) && decide ((u16 b 0x18).toNat ≤ 2047) && decide (1 ≤ (u32 b 0x08).toNat) &&
    decide ((u32 b 0x08).toNat ≤ 2000000) && decide ((u32 b 0x0C).toNat < (u32 b 0x08).toNat) &&
    ringSizeOk (u32 b 0x10) && multipleOf (u64 b 0x00) 16 && decide (1 ≤ (u32 b 0x14).toNat) &&
    decide (2 * (u32 b 0x14).toNat ≤ (u32 b 0x10).toNat) && zeroAt b 0x1C 68

/-- The fields of a STOP CADENCE (R104). -/
def stopFieldsOk (b : Body) : Bool := decide ((u8 b 0x00).toNat ≤ 7) && zeroAt b 0x01 95

/-- The fields of a RELEASE (R101). -/
def releaseFieldsOk (b : Body) : Bool := decide ((u8 b 0x00).toNat ≤ 7) && zeroAt b 0x01 3 && zeroAt b 0x08 88

/-- The cadence a body's number byte names. -/
def cadenceAt (b : Body) (offset : Nat) : Fin 8 := Fin.ofNat 8 (u8 b offset).toNat

/-- The fields of a SURVEY (R74). -/
def surveyFieldsOk (b : Body) : Bool := multipleOf (u64 b 0x00) 8 && zeroAt b 0x0C 84

/-- Whether a set's flags outside stations 1-40 are zero (section 11.4). -/
def setOk (x : BitVec 64) : Bool := x.getLsbD 0 == false && x.toNat / 2 ^ 41 == 0

/-- The fields of a RECONFIGURE (R79). -/
def reconfigureFieldsOk (b : Body) : Bool :=
  (u64 b 0x00 &&& u64 b 0x08 == 0) && (u64 b 0x00 ||| u64 b 0x08 != 0) && setOk (u64 b 0x00) && setOk (u64 b 0x08) &&
    zeroAt b 0x10 80

/-- The fields of a SET ATTENTION (R112). -/
def attentionFieldsOk (b : Body) : Bool :=
  (u64 b 0x00 &&& u64 b 0x08 == 0) && setOk (u64 b 0x00) && setOk (u64 b 0x08) && decide ((u8 b 0x10).toNat ≤ 1) &&
    zeroAt b 0x11 79

/-- The fields of a LOOP RESTART: none (R65). -/
def restartFieldsOk (b : Body) : Bool := zeroAt b 0x00 96

/-- QUERY subjects (section 11.9). -/
abbrev stationsSubject : Byte := 1

/-- LOOP (section 11.9). -/
abbrev loopSubject : Byte := 2

/-- CADENCES (section 11.9). -/
abbrev cadencesSubject : Byte := 3

/-- HOLDS (section 11.9). -/
abbrev holdsSubject : Byte := 4

/-- The subject of a QUERY body. -/
def querySubject (b : Body) : Byte := u8 b 0x0C

/-- Whether the answer goes into a buffer: STATIONS and CADENCES (R172). -/
def queryBuffered (b : Body) : Bool := querySubject b == stationsSubject || querySubject b == cadencesSubject

/-- The bytes a buffered subject's answer needs (R172). -/
def queryNeeds (b : Body) : Nat := if querySubject b = stationsSubject then 320 else 640

/-- The fields of a QUERY (R172). -/
def queryFieldsOk (b : Body) : Bool :=
  decide (1 ≤ (querySubject b).toNat ∧ (querySubject b).toNat ≤ 4) && decide ((u8 b 0x0D).toNat ≤ 1) &&
    !(u8 b 0x0D == 1 && querySubject b != loopSubject) &&
    (if queryBuffered b then multipleOf (u64 b 0x00) 8 else u64 b 0x00 == 0 && u32 b 0x08 == 0) && zeroAt b 0x0E 82

/-- The fields of a CANCEL (R150). -/
def cancelFieldsOk (b : Body) : Bool := zeroAt b 0x08 88

end Sys2Proof.Machine
end

