-- ==== Sys2Proof/Machine/Dispatcher.lean ====
section
/-! DEFINITION. The dispatcher (R144 to R147): a request frame's read arrives, the common order of checks is applied, and
the request is carried out or routed. One definition for each kind. -/

namespace Sys2Proof.Machine

open Sys2Proof

/-- Complete a request with a result and nothing else (R145). -/
def State.refuse (s : State) (i : Fin 40) (r : Result) : State := s.finish i { result := r.code }

/-- Whether the engine is QUIESCING. -/
def State.quiescing (s : State) : Bool := s.engine.state == .quiescing

/-! ### LOAD PROGRAM (R6 to R8) -/

/-- A LOAD PROGRAM is dispatched (R6, R7; one source read, log entry 7). -/
def State.doLoad (s : State) (i : Fin 40) (b : Body) : State :=
  if !loadFieldsOk b then s.refuse i .badField
  else if !s.inWindow false (u64 b 0x00) (16 * loadCount b) then s.refuse i .badAddress
  else
    match s.store.meets (loadDest b) (loadCount b) with
    | some k => s.finish i { result := Result.inUse.code, stepIndex := k }
    | none =>
      let s1 := s.access fun acc => .read acc (u64 b 0x00) (16 * loadCount b)
      let l : Load := { slot := i, dest := loadDest b, count := loadCount b, written := 0, acc := s.link.nextAcc }
      { s1 with store := { s1.store with load := some l } }

/-- A load ends: the flag clears, the done record is written and the frame marked READY (R8). -/
def State.endLoad (s : State) (l : Load) (r : Result) (step written : Nat) : State :=
  { s with store := { s.store with load := none } }.finish l.slot
    { result := r.code, stepIndex := step, countA := BitVec.ofNat 32 written }

/-- Write a step of the load in progress. -/
def State.writeLoaded (s : State) (l : Load) (st : Step) : State :=
  { s with store := { s.store with steps := writeStep s.store.steps (l.dest + l.written) st,
                                   load := some { l with written := l.written + 1 } } }

/-- The load in progress whose source read has this access number. -/
def State.loading (s : State) (acc : Nat) : Option Load := s.store.load.filter fun l => l.acc == acc

/-- The next source step of a load arrives (R7, R8). Whether the load has ended is the second part. -/
def State.sourceArrives (s : State) (l : Load) (image : StepImage) : State × Bool :=
  match Step.ofImage image with
  | none => (s.endLoad l .badStep (l.dest + l.written) l.written, true)
  | some st =>
    let s1 := s.writeLoaded l st
    if l.count ≤ l.written + 1 then (s1.endLoad l .done l.dest l.count, true) else (s1, false)

/-! ### Context kinds (R37, R40, R74, R146) -/

/-- Route a request to context A if IDLE, else to B if IDLE, else to the tail of the pending list (R146, R148). -/
def State.routeContext (s : State) (i : Fin 40) : State :=
  if (s.ctx ctxA).state = .idle then s.startRequest ctxA i
  else if (s.ctx ctxB).state = .idle then s.startRequest ctxB i
  else (s.setSlotState i .pending).setIntake fun x => { x with pendingList := x.pendingList ++ [i] }

/-- A context-kind request that passes its checks: routed, or completed QUIESCED (R146, R147). -/
def State.routeOrQuiesce (s : State) (i : Fin 40) : State :=
  if s.quiescing then s.refuse i .quiesced else s.routeContext i

/-- A RUN is dispatched (R37). -/
def State.doRun (s : State) (i : Fin 40) (b : Body) : State :=
  if !runFieldsOk b then s.refuse i .badField
  else if !s.runWindowsOk b then s.refuse i .badAddress
  else s.routeOrQuiesce i

/-- An EXCHANGE is dispatched; a refusal BAD STEP names the step's station as written (R40). -/
def State.doExchange (s : State) (i : Fin 40) (b : Body) : State :=
  match exchangeRefusal b with
  | some r => s.finish i { result := r.code, station := (u8 b 0x01).toNat }
  | none => s.routeOrQuiesce i

/-- A SURVEY is dispatched (R74). -/
def State.doSurvey (s : State) (i : Fin 40) (b : Body) : State :=
  if !surveyFieldsOk b then s.refuse i .badField
  else if !s.inWindow true (u64 b 0x00) (u32 b 0x08).toNat then s.refuse i .badAddress
  else if (u32 b 0x08).toNat < 320 then s.refuse i .shortBuffer
  else s.routeOrQuiesce i

/-! ### Cadence kinds (R89 to R91, R101 to R104) -/

/-- The outcome of a START CADENCE's prepass when it is not accepted: result and step index with the counts, in R90's
order; none when it is accepted. -/
def startRefusal (quiescing : Bool) (b : Body) : Prepass → Option DoneRecord
  | .vacant k => some { result := Result.vacantStep.code, stepIndex := k }
  | .noEnd k => some { result := Result.noEnd.code, stepIndex := k }
  | .complete _ l w =>
    let with_ (r : Result) : Option DoneRecord :=
      some { result := r.code, stepIndex := (u16 b 0x18).toNat, countA := BitVec.ofNat 32 (l + 1),
             countB := BitVec.ofNat 32 w }
    if w ≠ 0 then with_ .shortBuffer
    else if (u32 b 0x14).toNat < l + 1 then with_ .badField
    else if quiescing then with_ .quiesced
    else none

/-- A START CADENCE is dispatched (R89, R90, R91). -/
def State.doStart (s : State) (i : Fin 40) (b : Body) : State :=
  let n := cadenceAt b 0x1A
  if !startFieldsOk b then s.refuse i .badField
  else if !s.inWindow true (u64 b 0x00) (16 * (u32 b 0x10).toNat) then s.refuse i .badAddress
  else if (s.cad n).state ≠ .idle then s.refuse i .inUse
  else
    let p := prepass s.store (u16 b 0x18).toNat
    match startRefusal s.quiescing b p, p with
    | some d, _ => s.finish i d
    | none, .complete last l _ => s.acceptStart i n b last (l + 1)
    | none, _ => s

/-- A STOP CADENCE is dispatched (R104). -/
def State.doStop (s : State) (i : Fin 40) (b : Body) : State :=
  let n := cadenceAt b 0x00
  if !stopFieldsOk b then s.refuse i .badField
  else if (s.cad n).state = .idle then s.refuse i .noCadence
  else
    let s1 := s.cadenceStop n .requested
    s1.finish i { result := Result.done.code, countA := (s1.cad n).p, countB := (s1.cad n).runsStarted }

/-- A RELEASE is dispatched (R101, R102). -/
def State.doRelease (s : State) (i : Fin 40) (b : Body) : State :=
  let n := cadenceAt b 0x00
  let c := s.cad n
  let index := u32 b 0x04
  if !releaseFieldsOk b then s.refuse i .badField
  else if c.state = .idle then s.refuse i .noCadence
  else if !c.releases index then s.finish i { result := Result.badRelease.code, countA := c.p, countB := c.c }
  else
    let c1 : Cadence := { c with c := index, outstanding := false }
    (s.setCad n c1).finish i { result := Result.done.code, countA := c.p, countB := index } 0x08 (le 4 c1.free)

/-! ### Loop operations (R65, R79, R80) -/

/-- A loop operation's decision: refused, completed QUIESCED, or accepted (R65, R147; log entry 35). -/
def State.decideOp (s : State) (i : Fin 40) (refusal : Option Result) (accept : State → State) : State :=
  match refusal with
  | some r => s.refuse i r
  | none => if s.quiescing then s.refuse i .quiesced else accept s

/-- A RECONFIGURE is dispatched (R79, R80). -/
def State.doReconfigure (s : State) (i : Fin 40) (b : Body) : State :=
  if !reconfigureFieldsOk b then s.refuse i .badField
  else s.decideOp i s.reconfigureRefusal fun s => s.acceptReconfigure i (u64 b 0x00) (u64 b 0x08)

/-- A LOOP RESTART is dispatched (R65). -/
def State.doRestart (s : State) (i : Fin 40) (b : Body) : State :=
  if !restartFieldsOk b then s.refuse i .badField
  else s.decideOp i s.restartRefusal fun s => s.acceptRestart i

/-! ### SET ATTENTION (R112, R113) -/

/-- A SET ATTENTION is dispatched. -/
def State.doSetAttention (s : State) (i : Fin 40) (b : Body) : State :=
  if !attentionFieldsOk b then s.refuse i .badField
  else
    let r := s.setAttention (u64 b 0x00) (u64 b 0x08) (u8 b 0x10 == 1)
    r.1.finish i
      { result := Result.done.code, countA := BitVec.ofNat 32 r.2, countB := BitVec.ofNat 32 r.1.attention.length }
      0x20 (le 4 (waitingCount r.1.attention) ++ le 4 (heldCount r.1.attention))

/-! ### QUERY (chapter 10) -/

/-- A STATIONS query is answered; its records are one posted write (R173, R174; log entry 21). -/
def State.answerStations (s : State) (i : Fin 40) (b : Body) : State :=
  let records := (s.stations.toList.zipIdx).flatMap fun x => x.1.queryBytes (entryCode s.attention (x.2 + 1))
  (s.post (u64 b 0x00) records).finish i
    { result := Result.done.code,
      countA := BitVec.ofNat 32 (s.stations.toList.filter fun x => x.state == .present).length,
      countB := BitVec.ofNat 32 s.attention.length }

/-- A LOOP query is answered, and the counters cleared when it asks for it (R173, R175, R176). -/
def State.answerLoop (s : State) (i : Fin 40) (b : Body) : State :=
  let clear := u8 b 0x0D == 1
  let s1 := if clear then s.count fun _ => Stats.zero else s
  s1.finish i
    { result := Result.done.code, countA := s.engine.timeBase, countB := s.loop.stats.recoveries } 0x00
    (s.loopReport clear)

/-- A CADENCES query is answered; its records are one posted write (R173, R177; log entry 21). -/
def State.answerCadences (s : State) (i : Fin 40) (b : Body) : State :=
  (s.post (u64 b 0x00) (s.cadences.toList.flatMap Cadence.queryBytes)).finish i
    { result := Result.done.code,
      countA := BitVec.ofNat 32 (s.cadences.toList.filter fun c => c.state != .idle).length,
      countB := BitVec.ofNat 32 (s.cadences.toList.filter Cadence.owed).length }

/-- A HOLDS query is answered (R173, R178). -/
def State.answerHolds (s : State) (i : Fin 40) : State :=
  s.finish i
    { result := Result.done.code,
      countA := BitVec.ofNat 32 (s.store.holds.toList.filter Option.isSome).length,
      countB := BitVec.ofNat 32 ((List.range Config.storeSize).filter s.store.heldAt).length } 0x00 s.holdReport

/-- A QUERY is dispatched (R172, R173). -/
def State.doQuery (s : State) (i : Fin 40) (b : Body) : State :=
  if !queryFieldsOk b then s.refuse i .badField
  else if queryBuffered b && !s.inWindow true (u64 b 0x00) (u32 b 0x08).toNat then s.refuse i .badAddress
  else if queryBuffered b && decide ((u32 b 0x08).toNat < queryNeeds b) then
    s.finish i { result := Result.shortBuffer.code, countA := BitVec.ofNat 32 (queryNeeds b) }
  else if querySubject b = stationsSubject then s.answerStations i b
  else if querySubject b = loopSubject then s.answerLoop i b
  else if querySubject b = cadencesSubject then s.answerCadences i b
  else s.answerHolds i

/-! ### CANCEL (R150) -/

/-- Whether a slot's request record holds a tag. -/
def State.tagged (s : State) (tag : BitVec 64) (i : Fin 40) : Bool :=
  match s.recordOf i with
  | some r => r.tag == tag
  | none => false

/-- Whether a request context is running a request with a tag. -/
def State.runsTagged (s : State) (tag : BitVec 64) (i : CtxId) : Bool :=
  (s.ctx i).state != .idle && s.tagged tag (s.ctx i).owner

/-- Cancel a request context when its request has the tag. -/
def State.cancelTagged (s : State) (tag : BitVec 64) (i : CtxId) : State :=
  if s.runsTagged tag i then s.cancelCtx i .cancel else s

/-- A CANCEL is dispatched: pending matches complete CANCELLED oldest first, then A and B are cancelled, and the CANCEL's own
record follows. Freed contexts start what is pending at the end of the event (R148, R150). -/
def State.doCancel (s : State) (i : Fin 40) (b : Body) : State :=
  if !cancelFieldsOk b then s.refuse i .badField
  else
    let tag := u64 b 0x00
    let hits := s.intake.pendingList.filter (s.tagged tag)
    let s1 := s.setIntake fun x => { x with pendingList := x.pendingList.filter fun k => !s.tagged tag k }
    let s2 := hits.foldl (fun s k => s.refuse k .cancelled) s1
    let running := ([ctxA, ctxB].filter (s2.runsTagged tag)).length
    let s3 := (s2.cancelTagged tag ctxA).cancelTagged tag ctxB
    if hits.length + running = 0 then s3.refuse i .notFound
    else
      s3.finish i { result := Result.done.code, countA := BitVec.ofNat 32 hits.length,
                    countB := BitVec.ofNat 32 running }

/-! ### A frame read arrives -/

/-- The TAKEN slot whose frame read has this access number (R144). -/
def State.takenBy (s : State) (acc : Nat) : Option (Fin 40) :=
  ((List.range 40).map (Fin.ofNat 40)).find? fun i =>
    match s.slot i with
    | some x => x.state == .taken && x.readAcc == some acc
    | none => false

/-- Keep a frame's kind, tag and body in its slot's request record (R144). -/
def State.keepRecord (s : State) (i : Fin 40) (r : Record) : State :=
  match s.slot i with
  | some x => s.setSlot i (some { x with record := some r, readAcc := none })
  | none => s

/-- Carry out a request by its kind (R145, R146). -/
def State.doKind (s : State) (i : Fin 40) (r : Record) : State :=
  if r.kind = 1 then s.doLoad i r.body
  else if r.kind = 2 then s.doRun i r.body
  else if r.kind = 3 then s.doExchange i r.body
  else if r.kind = 4 then s.doStart i r.body
  else if r.kind = 5 then s.doStop i r.body
  else if r.kind = 6 then s.doRelease i r.body
  else if r.kind = 7 then s.doSurvey i r.body
  else if r.kind = 8 then s.doReconfigure i r.body
  else if r.kind = 9 then s.doSetAttention i r.body
  else if r.kind = 10 then s.doRestart i r.body
  else if r.kind = 11 then s.doQuery i r.body
  else if r.kind = 12 then s.doCancel i r.body
  else s.refuse i .badKind

/-- Whether a kind's dispatch can give a context or the Loop Port something to go on with. -/
def reachesLoop (kind : Byte) : Bool := [2, 3, 4, 7, 8, 10, 12].contains kind

/-- A request frame's read arrives: the record is kept, the request dispatched, and what follows taken (R144). An access
that no TAKEN frame waits for is ignored (log entry 3). -/
def State.dispatch (s : State) (acc : Nat) (r : Record) : State :=
  match s.takenBy acc with
  | some i =>
    let s1 := (s.keepRecord i r).doKind i r
    if reachesLoop r.kind then s1.settle s else s1.settleIntake s
  | none => s

end Sys2Proof.Machine
end

