-- ==== Sys2Proof/Machine/EngineControl.lean ====
section
/-! DEFINITION. Engine Control (chapter 9): resets, ENABLE and the anchor checks, QUIESCE, and the writes to the register
window. -/

namespace Sys2Proof.Machine

open Sys2Proof

/-! ### Resets (R163, R164) -/

/-- A station record after SOFT RESET: BYPASSED records keep state and ident, all others UNKNOWN and 0; attention
enabled (R72). -/
def Station.softReset (x : Station) : Station :=
  if x.state = .bypassed then { x with attention := true } else Station.afterReset

/-- SOFT RESET: the engine goes to STOPPED and every block takes its reset values; the steps of the store, the ANCHOR
registers and what the endpoint holds are kept (R163). -/
def State.softReset (s : State) : State :=
  { s with
    engine := { Engine.afterReset with
      anchorLow := s.engine.anchorLow, anchorHigh := s.engine.anchorHigh, messageEnable := s.engine.messageEnable },
    store := { s.store with holds := Vector.replicate 10 none, load := none },
    contexts := Vector.replicate 10 Context.zero,
    loop := LoopPort.afterReset,
    stations := mapTable Station.softReset s.stations,
    cadences := Vector.replicate 8 Cadence.zero,
    attention := [],
    notice := NoticeEngine.afterReset,
    queues := QueueUnit.afterReset,
    intake := Intake.afterReset }

/-- What power-on and host-link reset do beyond SOFT RESET: every location VACANT, every station UNKNOWN, the ANCHOR
registers 0, the message-enable input 0 (R164, R170). -/
def State.hardReset (s : State) : State :=
  let s1 := s.softReset
  { s1 with
    engine := Engine.afterReset,
    store := { s1.store with steps := [] },
    stations := Vector.replicate 40 Station.afterReset }

/-- The reset input is asserted: power-on reset, and the register window does not answer (R164). -/
def State.powerOn (s : State) : State := { s.hardReset with pins := { s.pins with resetAsserted := true } }

/-- The PCI Express link is reset or lost: host-link reset, and the window answers again once the link has been trained
(R164). -/
def State.linkReset (s : State) : State := { s.hardReset with pins := { s.pins with linkTrained := false } }

/-- The reset input is released (R164). -/
def State.releaseReset (s : State) : State := { s with pins := { s.pins with resetAsserted := false } }

/-- The link has been trained (R164). -/
def State.trainLink (s : State) : State := { s with pins := { s.pins with linkTrained := true } }

/-! ### ENABLE (R158 to R160) -/

/-- The engine enters STARTING; a bad anchor address faults at once, otherwise the anchor read is issued (R158). -/
def State.enable (s : State) : State :=
  if s.engine.state = .stopped then
    let s1 := { s with engine := { s.engine with state := .starting } }
    if s.anchorAddr = 0 ∨ multipleOf s.anchorAddr 64 = false then
      s1.raise { code := .anchorBad, detail := anchorDetail 1 0 }
    else
      { s1.access fun acc => .readAnchor acc s.anchorAddr with
        engine := { s1.engine with anchorRead := some s.link.nextAcc } }
  else s

/-- The base of window entry `e` in the second part of the anchor read, which begins at 40h (section 11.2). -/
def entryOffset (e : Nat) : Nat := 24 * e

end Sys2Proof.Machine

namespace Sys2Proof

open Sys2Proof.Machine

/-- Check 4 for one entry: valid is 0 or 1, and a valid entry has an access code, a length, and an end within the
address space (R159). -/
def AnchorImage.entryOk (a : AnchorImage) (e : Nat) : Bool :=
  let at_ := entryOffset e
  let valid := u8 a.high (at_ + 0x11)
  let access := u8 a.high (at_ + 0x10)
  let base := (u64 a.high at_).toNat
  let length := (u64 a.high (at_ + 8)).toNat
  valid == 0 ||
    (valid == 1 && (access == 1 || access == 2) && length != 0 && decide (base + length ≤ 2 ^ 64))

/-- A loop configuration field, by its place after 100h (section 11.2). -/
def AnchorImage.field (a : AnchorImage) (k : Nat) : Nat := (u32 a.high (0xC0 + 4 * k)).toNat

/-- Check 5 for one field, 1 reply timeout to 5 settle interval (R159). -/
def AnchorImage.fieldOk (a : AnchorImage) : Nat → Bool
  | 1 => decide (20 ≤ a.field 0 ∧ a.field 0 ≤ 20000)
  | 2 => a.field 1 == 0 || decide (1 ≤ a.field 1 ∧ a.field 1 ≤ 60000)
  | 3 => decide (a.field 2 ≤ 1000)
  | 4 => decide (a.field 3 ≤ 3)
  | _ => decide (100 ≤ a.field 4 ∧ a.field 4 ≤ 100000)

/-- Check 3: arena base, frame count and the arena's end (R159). -/
def AnchorImage.arenaOk (a : AnchorImage) : Bool :=
  let base := u64 a.low 0x00
  let n := (u32 a.low 0x08).toNat
  base != 0 && multipleOf base 128 && decide (2 ≤ n ∧ n ≤ 65535) && decide (base.toNat + 128 * n ≤ 2 ^ 64)

/-- Check 6: the must-be-zero fields outside the queue headers (R159, section 11.2). -/
def AnchorImage.zerosOk (a : AnchorImage) : Bool :=
  u32 a.low 0x0C == 0 && ((List.range 8).all fun e => zeroAt a.high (entryOffset e + 0x12) 6) && zeroAt a.high 0xD4 12

/-- The first check of 3 to 6 that fails, with the entry or field it names (R159; the lowest of several entries or
fields, log entry 20). -/
def AnchorImage.failedCheck (a : AnchorImage) : Option (Nat × Nat) :=
  if !a.arenaOk then some (3, 0)
  else match (List.range 8).find? fun e => !a.entryOk e with
    | some e => some (4, e)
    | none =>
      match [1, 2, 3, 4, 5].find? fun k => !a.fieldOk k with
      | some k => some (5, k)
      | none => if a.zerosOk then none else some (6, 0)

/-- The configuration that the anchor block holds (R121, R159). -/
def AnchorImage.config (a : AnchorImage) : AnchorConfig :=
  { arenaBase := u64 a.low 0x00, frameCount := u32 a.low 0x08,
    windows := (List.range 8).map fun e =>
      { base := (u64 a.high (entryOffset e)).toNat, length := (u64 a.high (entryOffset e + 8)).toNat,
        readWrite := u8 a.high (entryOffset e + 0x10) == 2, valid := u8 a.high (entryOffset e + 0x11) == 1 },
    replyTimeout := a.field 0, readyWaitLimit := a.field 1, awaitGap := a.field 2, retryLimit := a.field 3,
    settleInterval := a.field 4 }

end Sys2Proof

namespace Sys2Proof.Machine

open Sys2Proof

/-- The engine enters RUNNING: time base 0, the configuration in force, the loop in SYNCING, the taker with a look to
make (R160). -/
def State.enterRunning (s : State) (config : AnchorConfig) : State :=
  ({ s with engine := { s.engine with state := .running, config, timeBase := 0, anchorRead := none } }.enterSyncing).takerLook

/-- The anchor read's outcome arrives (R159, R160). -/
def State.anchorOutcome (s : State) (acc : Nat) (image : Option AnchorImage) : State :=
  if s.engine.state = .starting ∧ s.engine.anchorRead = some acc then
    match image with
    | none => s.raise { code := .anchorBad, detail := anchorDetail 2 0 }
    | some a =>
      match a.failedCheck with
      | some (check, further) => s.raise { code := .anchorBad, detail := anchorDetail check further }
      | none => (s.enterRunning a.config).settle s
  else s

/-! ### QUIESCE (R161) -/

/-- What a QUIESCE stops: the pending entries, a request context, a cadence. -/
inductive Quiescing where
  | pending
  | context (i : CtxId)
  | cadence (n : Fin 8)
deriving DecidableEq, Repr

/-- All that a QUIESCE stops; one mark for each pending entry. -/
def State.toQuiesce (s : State) : List Quiescing :=
  s.intake.pendingList.map (fun _ => .pending) ++
    (([ctxA, ctxB].filter fun i => (s.ctx i).state != .idle).map .context) ++
    ((((List.range 8).map (Fin.ofNat 8)).filter fun n => (s.cad n).state != .idle).map .cadence)

/-- Stop one of them: the oldest pending entry completes QUIESCED, a context is cancelled, a cadence stops (R45, R107,
R149). -/
def State.quiesceOne (s : State) : Quiescing → State
  | .pending =>
    match s.intake.pendingList with
    | [] => s
    | i :: rest => (s.setIntake fun x => { x with pendingList := rest }).refuse i .quiesced
  | .context i => s.cancelCtx i .quiesce
  | .cadence n => s.cadenceStop n .quiesced

/-- The taker in the QUIESCE event: ASLEEP and BLOCKED become IDLE (R142). -/
def State.takerQuiesce (s : State) : State :=
  if s.intake.taker = .asleep ∨ s.intake.taker = .blocked then s.setIntake fun x => { x with taker := .idle } else s

/-- A QUIESCE taken in RUNNING; the blocks' markings come in a free order (R152, R161, log entry 5). -/
def State.quiesce (s : State) : State :=
  if s.engine.state = .running then
    let s1 := ({ s with engine := { s.engine with state := .quiescing } }).takerQuiesce
    let all := s1.toQuiesce
    ((freeOrder s1 all).foldl State.quiesceOne (s1.chose all)).settleIntake s
  else s

/-! ### Register writes (R166, R168, R169) -/

/-- A write to ANCHOR LOW or HIGH: taken in STOPPED (R166). -/
def State.writeAnchor (s : State) (high : Bool) (value : Word) : State :=
  if s.engine.state = .stopped then
    if high then { s with engine := { s.engine with anchorHigh := value } }
    else { s with engine := { s.engine with anchorLow := value } }
  else s

/-- A write to CAUSE: the causes written 1 are cleared, and a message is sent when causes remain (R169, R170). -/
def State.writeCause (s : State) (value : Word) : State :=
  let left := s.engine.causes &&& ~~~(value.setWidth 4)
  let s1 := { s with engine := { s.engine with causes := left } }
  if left = 0 then s1 else s1.sendMessage

/-- A write to PROMPT: each queue named is prompted, the request queue first (R168). -/
def State.writePrompt (s : State) (value : Word) : State :=
  let s1 := if value.getLsbD 0 then s.takerPrompt.settleIntake s else s
  if value.getLsbD 1 then s1.noticePrompt.settleIntake s1 else s1

/-- A write to ENGINE COMMAND (R157, R166). -/
def State.writeCommand (s : State) (value : Word) : State :=
  if value = 1 then s.enable
  else if value = 2 then s.quiesce
  else if value = 3 then s.softReset
  else s

/-- A write to the register window: of four bytes to a writable register it takes effect, any other is ignored; none
reaches the part while the window does not answer (R164, R166; log entry 27). -/
def State.registerWrite (s : State) (offset bytes : Nat) (value : Word) : State :=
  if s.windowAnswers ∧ bytes = 4 then
    if offset = 0x00 then s.writeAnchor false value
    else if offset = 0x04 then s.writeAnchor true value
    else if offset = 0x08 then s.writeCommand value
    else if offset = 0x10 then s.writePrompt value
    else if offset = 0x14 then s.writeCause value
    else s
  else s

end Sys2Proof.Machine
end

