-- ==== Sys2Proof/Machine/Clock.lean ====
section
/-! DEFINITION. The passing of one microsecond (R30, R92, R171; log entry 1), and what a timer's expiry does at its
block. -/

namespace Sys2Proof.Machine

open Sys2Proof

/-- A timer one microsecond on; at 0 it waits for its expiry (log entry 2). -/
def Timer.tick (t : Timer) : Timer := t.map (· - 1)

/-- A context one microsecond on: its timer runs, and its ready-wait grows while the loop is OPEN (R21, R29, R30). -/
def Context.tick (opened : Bool) (c : Context) : Context :=
  { c with timer := Timer.tick c.timer,
           readyWait := if opened && c.readyOn && c.state != .idle then c.readyWait + 1 else c.readyWait }

/-- A Queue Unit operation one microsecond on (R127, R128). -/
def QueueOp.tick (o : QueueOp) : QueueOp := { o with timer := Timer.tick o.timer, stall := Timer.tick o.stall }

/-- The message-enable input is sampled: it is what the host has set in the endpoint, a free value, while the endpoint can
be reached, and stays 0 after a hard reset until then (R164, R170; log entry 10). -/
def State.sampleEnable (s : State) : State :=
  if s.windowAnswers then
    { s with
      engine := { s.engine with messageEnable := Config.messageInput s.pins.samples },
      pins := { s.pins with samples := s.pins.samples + 1 } }
  else s

/-- The time base and every running timer move by one microsecond; nothing moves while FAULTED or while the reset input is
asserted (R46, R87, R125, R165, R171). -/
def State.passMicrosecond (s : State) : State :=
  if s.live then
    { s with
      engine := { s.engine with timeBase := s.engine.timeBase + 1 },
      contexts := mapTable (Context.tick (s.loop.state == .opened)) s.contexts,
      loop := { s.loop with quietTimer := Timer.tick s.loop.quietTimer, settleTimer := Timer.tick s.loop.settleTimer,
                            syncTimer := Timer.tick s.loop.syncTimer },
      cadences := mapTable (fun c => { c with trigger := Timer.tick c.trigger }) s.cadences,
      queues := { s.queues with request := s.queues.request.map QueueOp.tick, done := s.queues.done.map QueueOp.tick,
                                spare := s.queues.spare.map QueueOp.tick } }
  else s

/-- One microsecond passes, and the endpoint's input is sampled (log entries 1 and 10). -/
def State.tick (s : State) : State := s.passMicrosecond.sampleEnable

/-- A command that is neither a reset nor a register access: it acts while the part is live, with what follows at the end
of the event, and is ignored otherwise (R17, R46, R165). -/
def State.event (s : State) (f : State → State) : State := if s.live then (f s).settle s else s

/-- The same for a command that gives no context and not the loop anything to go on with. -/
def State.intakeEvent (s : State) (f : State → State) : State := if s.live then (f s).settleIntake s else s

/-- The pause of a context expires (R21). -/
def State.pauseEnds (s : State) (i : CtxId) : State :=
  let c := s.ctx i
  if c.state = .paused ∧ c.timer.isSome then (s.setCtx i { c with timer := none }).nextStep i else s

/-- The await gap of a context expires: it waits in ISSUING again (R29). -/
def State.gapEnds (s : State) (i : CtxId) : State :=
  let c := s.ctx i
  if c.state = .backingOff ∧ c.timer.isSome then s.setCtx i { c with timer := none, state := .issuing } else s

/-- The context whose input read has this access number (R22). -/
def State.reading (s : State) (acc : Nat) : Option CtxId :=
  ((List.range 10).map (Fin.ofNat 10)).find? fun i => (s.ctx i).inputRead == some acc

/-- An input word arrives and is held for the element; a word no context waits for is discarded (R22). -/
def State.inputArrives (s : State) (acc : Nat) (word : Word) : State :=
  match s.reading acc with
  | some i => s.setCtx i { s.ctx i with held := some word, inputRead := none }
  | none => s

/-- An input read has failed: INPUT FAULT; a report no context waits for is ignored (R22). -/
def State.inputFails (s : State) (acc : Nat) : State :=
  match s.reading acc with
  | some i => (s.setCtx i { s.ctx i with inputRead := none }).stepError i .inputFault false false
  | none => s

/-- The read of a TAKEN frame has failed: HOST READ FAULT naming the frame and no queue (R144). -/
def State.frameReadFails (s : State) (acc : Nat) : State :=
  match s.takenBy acc with
  | some i =>
    match s.slot i with
    | some x => s.raise { code := .hostReadFault, detail := queueDetail none x.index }
    | none => s
  | none => s

/-- A source step arrives for the load in progress; when the load ends, what waited for it goes on (R7, R8, R10). -/
def State.sourceStep (s : State) (acc : Nat) (image : StepImage) : State :=
  match s.loading acc with
  | some l =>
    let r := s.sourceArrives l image
    if r.2 then r.1.settle s else r.1
  | none => s

/-- The source read has failed: the load ends SOURCE FAULT at the first step not written (R7, R8). -/
def State.sourceFails (s : State) (acc : Nat) : State :=
  match s.loading acc with
  | some l => (s.endLoad l .sourceFault (l.dest + l.written) l.written).settle s
  | none => s

/-- The settle timer expires (R85). -/
def State.settleEnds (s : State) : State :=
  if s.loop.state = .settling ∧ s.loop.settleTimer.isSome then s.enterSyncing else s

/-- The quiet timer expires in QUIET (R61). -/
def State.quietExpires (s : State) : State :=
  if s.loop.state = .quiet ∧ s.loop.quietTimer.isSome then s.quietEnds else s

/-- The SYNC timer expires (R62). -/
def State.syncExpires (s : State) : State :=
  if s.loop.state = .syncing ∧ s.loop.syncWaits ∧ s.loop.syncTimer.isSome then s.syncFailed else s

/-- The quiet interval between two attempts expires: the next attempt begins (R62). -/
def State.syncQuietExpires (s : State) : State :=
  if s.loop.state = .syncing ∧ ¬ s.loop.syncWaits ∧ s.loop.quietTimer.isSome then s.syncAttempt else s

/-- The trigger timer of a cadence expires (R92). -/
def State.cadenceExpires (s : State) (n : Fin 8) : State :=
  if (s.cad n).trigger.isSome then s.triggerExpires n else s

end Sys2Proof.Machine
end

