-- ==== Sys2Proof/Machine/CadenceCommands.lean ====
section
/-! DEFINITION. The meanings of the Cadence Unit's events (chapter 5): one definition per command. -/

namespace Sys2Proof.Machine

open Sys2Proof

/-- CADENCE_LOOP_DOWN_STOP (R64, R106). -/
def execCadenceLoopDownStop (s : State) : Host.Outcome State Fault Refusal :=
  .next (s.event (·.loopDownStops))

/-- CADENCE_TRIGGER (R92 to R95). -/
def execCadenceTrigger (cadence : Fin 8) (s : State) : Host.Outcome State Fault Refusal :=
  .next (s.event (·.cadenceExpires cadence))

end Sys2Proof.Machine
end

