-- ==== Sys2Proof/Machine/ContextCommands.lean ====
section
/-! DEFINITION. The meanings of the input reads' outcomes and of the contexts' timers (chapter 2): one definition per command. -/

namespace Sys2Proof.Machine

open Sys2Proof

/-- INPUT_WORD_ARRIVAL (R22). -/
def execInputWordArrival (acc : Nat) (word : Word) (s : State) : Host.Outcome State Fault Refusal :=
  .next (s.event (·.inputArrives acc word))

/-- INPUT_READ_FAIL (R22). -/
def execInputReadFail (acc : Nat) (s : State) : Host.Outcome State Fault Refusal :=
  .next (s.event (·.inputFails acc))

/-- PAUSE_EXPIRY (R21). -/
def execPauseExpiry (ctx : Fin 10) (s : State) : Host.Outcome State Fault Refusal :=
  .next (s.event (·.pauseEnds ctx))

/-- AWAIT_GAP_EXPIRY (R29). -/
def execAwaitGapExpiry (ctx : Fin 10) (s : State) : Host.Outcome State Fault Refusal :=
  .next (s.event (·.gapEnds ctx))

end Sys2Proof.Machine
end

