-- ==== Sys2Proof/Machine/LoopCommands.lean ====
section
/-! DEFINITION. The meanings of the loop events (chapters 3 and 4): the end of a transmission, the arrivals, line loss and the Loop
Port's timers. One definition per command. -/

namespace Sys2Proof.Machine

open Sys2Proof

/-- FRAME_TRANSMIT_END (R47). -/
def execFrameTransmitEnd (s : State) : Host.Outcome State Fault Refusal :=
  .next (s.event (·.transmitEnd))

/-- REPLY_ARRIVAL (R54, R56, R57, R59). -/
def execReplyArrival (sequence : BitVec 3) (station : BitVec 6) (ack ready : Bool) (data : Word) (s : State) :
    Host.Outcome State Fault Refusal :=
  .next (s.event fun s => s.framed.replyArrives sequence station ack ready data)

/-- FRAME_RETURNED: a COMMAND or SWITCH frame arrives (R54, R56, R57, R59). -/
def execFrameReturned (frame : LoopFrame) (s : State) : Host.Outcome State Fault Refusal :=
  .next (s.event fun s => s.framed.frameReturns frame)

/-- BAD_CHECK_FRAME (R54, R55, R59). -/
def execBadCheckFrame (s : State) : Host.Outcome State Fault Refusal :=
  .next (s.event fun s => s.framed.badCheck)

/-- ATTENTION_ARRIVAL (R54, R59, R110, R111). -/
def execAttentionArrival (station : BitVec 6) (code : Word) (s : State) : Host.Outcome State Fault Refusal :=
  .next (s.intakeEvent fun s => s.framed.attentionArrives station code)

/-- SYNC_ARRIVAL (R54, R57, R59, R62). -/
def execSyncArrival (pattern : Word) (s : State) : Host.Outcome State Fault Refusal :=
  .next (s.event fun s => s.framed.syncArrives pattern)

/-- UNEXPECTED_TYPE_FRAME (R54, R57, R59, R182). -/
def execUnexpectedTypeFrame (s : State) : Host.Outcome State Fault Refusal :=
  .next (s.event fun s => s.framed.sequenceFault)

/-- LINE_LOSS (R59). -/
def execLineLoss (s : State) : Host.Outcome State Fault Refusal :=
  .next (s.event (·.lineLost))

/-- REPLY_TIMEOUT (R49, R58, R84). -/
def execReplyTimeout (s : State) : Host.Outcome State Fault Refusal :=
  .next (s.event (·.deadlineExpires))

/-- QUIET_TIMER_EXPIRY (R61). -/
def execQuietTimerExpiry (s : State) : Host.Outcome State Fault Refusal :=
  .next (s.event (·.quietExpires))

/-- SYNC_TIMER_EXPIRY (R62, R64). -/
def execSyncTimerExpiry (s : State) : Host.Outcome State Fault Refusal :=
  .next (s.event (·.syncExpires))

/-- SYNC_QUIET_EXPIRY (R62). -/
def execSyncQuietExpiry (s : State) : Host.Outcome State Fault Refusal :=
  .next (s.event (·.syncQuietExpires))

/-- SETTLE_TIMER_EXPIRY (R85). -/
def execSettleTimerExpiry (s : State) : Host.Outcome State Fault Refusal :=
  .next (s.event (·.settleEnds))

end Sys2Proof.Machine
end

