-- ==== Sys2Proof/Machine/QueueCommands.lean ====
section
/-! DEFINITION. The meanings of the Queue Unit's outcomes and timers (chapter 7): one definition per command. -/

namespace Sys2Proof.Machine

open Sys2Proof

/-- LOCK_CLAIM_OUTCOME (R126). -/
def execLockClaimOutcome (acc : Nat) (found : Option Word) (s : State) : Host.Outcome State Fault Refusal :=
  .next (s.intakeEvent (·.claimOutcome acc found))

/-- LOCK_BACKOFF_EXPIRY (R127). -/
def execLockBackoffExpiry (q : Queue) (s : State) : Host.Outcome State Fault Refusal :=
  .next (s.intakeEvent (·.backoffExpires q))

/-- CONTENTION_PAUSE_EXPIRY (R127). -/
def execContentionPauseExpiry (q : Queue) (s : State) : Host.Outcome State Fault Refusal :=
  .next (s.intakeEvent (·.contentionExpires q))

/-- STALL_TIMER_EXPIRY (R128). -/
def execStallTimerExpiry (q : Queue) (s : State) : Host.Outcome State Fault Refusal :=
  .next (s.intakeEvent (·.stallExpires q))

/-- HEADER_READ_OUTCOME (R130, R131, R132). -/
def execHeaderReadOutcome (acc : Nat) (head tail count : Word) (s : State) : Host.Outcome State Fault Refusal :=
  .next (s.intakeEvent (·.headerOutcome acc head tail count))

/-- LINK_READ_OUTCOME (R130, R131, R132). -/
def execLinkReadOutcome (acc : Nat) (link : Word) (s : State) : Host.Outcome State Fault Refusal :=
  .next (s.intakeEvent (·.linkOutcome acc link))

/-- QUEUE_READ_FAIL (R134). -/
def execQueueReadFail (acc : Nat) (s : State) : Host.Outcome State Fault Refusal :=
  .next (s.intakeEvent (·.queueReadFails acc))

/-- LOCK_RELEASE_OUTCOME (R129). -/
def execLockReleaseOutcome (acc : Nat) (found : Option Word) (s : State) : Host.Outcome State Fault Refusal :=
  .next (s.intakeEvent (·.releaseOutcome acc found))

end Sys2Proof.Machine
end

