-- ==== Sys2Proof/Machine/RegisterCommands.lean ====
section
/-! DEFINITION. The meanings of the register writes that are not engine commands (sections 9.6 and 9.7): one definition per command. -/

namespace Sys2Proof.Machine

open Sys2Proof

/-- PROMPT_REQUEST: PROMPT written with the request-queue bit (R142, R168). -/
def execPromptRequest (s : State) : Host.Outcome State Fault Refusal :=
  .next (s.registerWrite 0x10 4 1)

/-- PROMPT_SPARE: PROMPT written with the spare-queue bit (R119, R168). -/
def execPromptSpare (s : State) : Host.Outcome State Fault Refusal :=
  .next (s.registerWrite 0x10 4 2)

/-- CAUSE_WRITE (R169, R170). -/
def execCauseWrite (value : Word) (s : State) : Host.Outcome State Fault Refusal :=
  .next (s.registerWrite 0x14 4 value)

/-- ANCHOR_WRITE: a four-byte write to ANCHOR LOW or ANCHOR HIGH (R166). -/
def execAnchorWrite (high : Bool) (value : Word) (s : State) : Host.Outcome State Fault Refusal :=
  .next (s.registerWrite (if high then 0x04 else 0x00) 4 value)

/-- REGISTER_WRITE: any write to the window (R166); the row's own forms are those it ignores. -/
def execRegisterWrite (offset bytes : Nat) (value : Word) (s : State) : Host.Outcome State Fault Refusal :=
  .next (s.registerWrite offset bytes value)

end Sys2Proof.Machine
end

