-- ==== Sys2Proof/Machine/RequestCommands.lean ====
section
/-! DEFINITION. The meanings of the request rows (chapters 1 to 8 and 10): the read of a TAKEN frame arrives and its request is
dispatched. One definition per command. -/

namespace Sys2Proof.Machine

open Sys2Proof

/-- FRAME_READ_FAIL (R144). -/
def execFrameReadFail (acc : Nat) (s : State) : Host.Outcome State Fault Refusal :=
  .next (s.intakeEvent (·.frameReadFails acc))

/-- BAD_KIND: the read of a TAKEN frame of a kind outside 1-12 arrives (R145). -/
def execBadKind (acc : Nat) (kind : Byte) (tag : BitVec 64) (body : Body) (s : State) :
    Host.Outcome State Fault Refusal :=
  .next (if s.live then s.dispatch acc { kind, tag, body } else s)

/-- LOAD_PROGRAM: the read of a TAKEN frame of kind 1 arrives (R6, R7). -/
def execLoadProgram (acc : Nat) (tag : BitVec 64) (body : Body) (s : State) : Host.Outcome State Fault Refusal :=
  .next (if s.live then s.dispatch acc { kind := 1, tag, body } else s)

/-- LOAD_SOURCE_ARRIVAL (R7, R8). -/
def execLoadSourceArrival (acc : Nat) (image : StepImage) (s : State) : Host.Outcome State Fault Refusal :=
  .next (if s.live then s.sourceStep acc image else s)

/-- LOAD_SOURCE_READ_FAIL (R7, R8). -/
def execLoadSourceReadFail (acc : Nat) (s : State) : Host.Outcome State Fault Refusal :=
  .next (if s.live then s.sourceFails acc else s)

/-- RUN: the read of a TAKEN frame of kind 2 arrives (R37). -/
def execRun (acc : Nat) (tag : BitVec 64) (body : Body) (s : State) : Host.Outcome State Fault Refusal :=
  .next (if s.live then s.dispatch acc { kind := 2, tag, body } else s)

/-- EXCHANGE: the read of a TAKEN frame of kind 3 arrives (R40). -/
def execExchange (acc : Nat) (tag : BitVec 64) (body : Body) (s : State) : Host.Outcome State Fault Refusal :=
  .next (if s.live then s.dispatch acc { kind := 3, tag, body } else s)

/-- START_CADENCE: the read of a TAKEN frame of kind 4 arrives (R89, R90, R91). -/
def execStartCadence (acc : Nat) (tag : BitVec 64) (body : Body) (s : State) : Host.Outcome State Fault Refusal :=
  .next (if s.live then s.dispatch acc { kind := 4, tag, body } else s)

/-- STOP_CADENCE: the read of a TAKEN frame of kind 5 arrives (R104). -/
def execStopCadence (acc : Nat) (tag : BitVec 64) (body : Body) (s : State) : Host.Outcome State Fault Refusal :=
  .next (if s.live then s.dispatch acc { kind := 5, tag, body } else s)

/-- RELEASE: the read of a TAKEN frame of kind 6 arrives (R101, R102). -/
def execRelease (acc : Nat) (tag : BitVec 64) (body : Body) (s : State) : Host.Outcome State Fault Refusal :=
  .next (if s.live then s.dispatch acc { kind := 6, tag, body } else s)

/-- SURVEY: the read of a TAKEN frame of kind 7 arrives (R74). -/
def execSurvey (acc : Nat) (tag : BitVec 64) (body : Body) (s : State) : Host.Outcome State Fault Refusal :=
  .next (if s.live then s.dispatch acc { kind := 7, tag, body } else s)

/-- RECONFIGURE: the read of a TAKEN frame of kind 8 arrives (R79, R80). -/
def execReconfigure (acc : Nat) (tag : BitVec 64) (body : Body) (s : State) : Host.Outcome State Fault Refusal :=
  .next (if s.live then s.dispatch acc { kind := 8, tag, body } else s)

/-- SET_ATTENTION: the read of a TAKEN frame of kind 9 arrives (R112, R113). -/
def execSetAttention (acc : Nat) (tag : BitVec 64) (body : Body) (s : State) : Host.Outcome State Fault Refusal :=
  .next (if s.live then s.dispatch acc { kind := 9, tag, body } else s)

/-- LOOP_RESTART: the read of a TAKEN frame of kind 10 arrives (R65). -/
def execLoopRestart (acc : Nat) (tag : BitVec 64) (body : Body) (s : State) : Host.Outcome State Fault Refusal :=
  .next (if s.live then s.dispatch acc { kind := 10, tag, body } else s)

/-- QUERY_STATIONS: the read of a TAKEN frame of kind 11 arrives with subject STATIONS (R172, R173, R174). -/
def execQueryStations (acc : Nat) (tag : BitVec 64) (body : Body) (s : State) : Host.Outcome State Fault Refusal :=
  .next (if s.live then s.dispatch acc { kind := 11, tag, body } else s)

/-- QUERY_LOOP: the read of a TAKEN frame of kind 11 arrives with subject LOOP (R172, R173, R175, R176). -/
def execQueryLoop (acc : Nat) (tag : BitVec 64) (body : Body) (s : State) : Host.Outcome State Fault Refusal :=
  .next (if s.live then s.dispatch acc { kind := 11, tag, body } else s)

/-- QUERY_CADENCES: the read of a TAKEN frame of kind 11 arrives with subject CADENCES (R172, R173, R177). -/
def execQueryCadences (acc : Nat) (tag : BitVec 64) (body : Body) (s : State) : Host.Outcome State Fault Refusal :=
  .next (if s.live then s.dispatch acc { kind := 11, tag, body } else s)

/-- QUERY_HOLDS: the read of a TAKEN frame of kind 11 arrives with subject HOLDS (R172, R173, R178). -/
def execQueryHolds (acc : Nat) (tag : BitVec 64) (body : Body) (s : State) : Host.Outcome State Fault Refusal :=
  .next (if s.live then s.dispatch acc { kind := 11, tag, body } else s)

/-- CANCEL: the read of a TAKEN frame of kind 12 arrives (R150). -/
def execCancel (acc : Nat) (tag : BitVec 64) (body : Body) (s : State) : Host.Outcome State Fault Refusal :=
  .next (if s.live then s.dispatch acc { kind := 12, tag, body } else s)

end Sys2Proof.Machine
end

