-- ==== Sys2Proof/Machine/ResetCommands.lean ====
section
/-! DEFINITION. The meanings of the resets and the engine commands (chapter 9): one definition per command. -/

namespace Sys2Proof.Machine

open Sys2Proof

/-- POWER_ON_RESET: the reset input is asserted (R164). -/
def execPowerOnReset (s : State) : Host.Outcome State Fault Refusal :=
  .next (s.powerOn)

/-- HOST_LINK_RESET: the link is reset or lost; while the reset input is asserted the part stays as power-on reset left it
(R164; log entry 9). -/
def execHostLinkReset (s : State) : Host.Outcome State Fault Refusal :=
  .next (s.linkReset)

/-- ENABLE: ENGINE COMMAND written with 1 (R157, R158). -/
def execEnable (s : State) : Host.Outcome State Fault Refusal :=
  .next (s.registerWrite 0x08 4 1)

/-- QUIESCE: ENGINE COMMAND written with 2 (R157, R161). -/
def execQuiesce (s : State) : Host.Outcome State Fault Refusal :=
  .next (s.registerWrite 0x08 4 2)

/-- SOFT_RESET: ENGINE COMMAND written with 3 (R157, R163). -/
def execSoftReset (s : State) : Host.Outcome State Fault Refusal :=
  .next (s.registerWrite 0x08 4 3)

/-- ANCHOR_READ_OUTCOME (R159, R160). -/
def execAnchorReadOutcome (acc : Nat) (image : Option AnchorImage) (s : State) : Host.Outcome State Fault Refusal :=
  .next (if s.live then s.anchorOutcome acc image else s)

/-- RESET_INPUT_RELEASE (R164). -/
def execResetInputRelease (s : State) : Host.Outcome State Fault Refusal :=
  .next (s.releaseReset)

/-- LINK_TRAINED (R164). -/
def execLinkTrained (s : State) : Host.Outcome State Fault Refusal :=
  .next (s.trainLink)

end Sys2Proof.Machine
end

