-- ==== Sys2Proof/Machine/Dispatch.lean ====
section
/-! DEFINITION. What each command does to everything but the queue: one arm per constructor of `Instr`. -/

namespace Sys2Proof.Machine

open Sys2Proof

def exec (i : Instr) (s : State) : Host.Outcome State Fault Refusal :=
  match i with
  | .powerOnReset => Sys2Proof.Machine.execPowerOnReset s
  | .hostLinkReset => Sys2Proof.Machine.execHostLinkReset s
  | .enable => Sys2Proof.Machine.execEnable s
  | .quiesce => Sys2Proof.Machine.execQuiesce s
  | .softReset => Sys2Proof.Machine.execSoftReset s
  | .promptRequest => Sys2Proof.Machine.execPromptRequest s
  | .promptSpare => Sys2Proof.Machine.execPromptSpare s
  | .causeWrite value => Sys2Proof.Machine.execCauseWrite value s
  | .anchorWrite high value => Sys2Proof.Machine.execAnchorWrite high value s
  | .registerWrite offset bytes value => Sys2Proof.Machine.execRegisterWrite offset bytes value s
  | .anchorReadOutcome acc image => Sys2Proof.Machine.execAnchorReadOutcome acc image s
  | .lockClaimOutcome acc found => Sys2Proof.Machine.execLockClaimOutcome acc found s
  | .lockBackoffExpiry q => Sys2Proof.Machine.execLockBackoffExpiry q s
  | .contentionPauseExpiry q => Sys2Proof.Machine.execContentionPauseExpiry q s
  | .stallTimerExpiry q => Sys2Proof.Machine.execStallTimerExpiry q s
  | .headerReadOutcome acc head tail count => Sys2Proof.Machine.execHeaderReadOutcome acc head tail count s
  | .linkReadOutcome acc link => Sys2Proof.Machine.execLinkReadOutcome acc link s
  | .queueReadFail acc => Sys2Proof.Machine.execQueueReadFail acc s
  | .lockReleaseOutcome acc found => Sys2Proof.Machine.execLockReleaseOutcome acc found s
  | .frameReadFail acc => Sys2Proof.Machine.execFrameReadFail acc s
  | .badKind acc kind tag body => Sys2Proof.Machine.execBadKind acc kind tag body s
  | .loadProgram acc tag body => Sys2Proof.Machine.execLoadProgram acc tag body s
  | .loadSourceArrival acc image => Sys2Proof.Machine.execLoadSourceArrival acc image s
  | .loadSourceReadFail acc => Sys2Proof.Machine.execLoadSourceReadFail acc s
  | .run acc tag body => Sys2Proof.Machine.execRun acc tag body s
  | .exchange acc tag body => Sys2Proof.Machine.execExchange acc tag body s
  | .startCadence acc tag body => Sys2Proof.Machine.execStartCadence acc tag body s
  | .stopCadence acc tag body => Sys2Proof.Machine.execStopCadence acc tag body s
  | .release acc tag body => Sys2Proof.Machine.execRelease acc tag body s
  | .survey acc tag body => Sys2Proof.Machine.execSurvey acc tag body s
  | .reconfigure acc tag body => Sys2Proof.Machine.execReconfigure acc tag body s
  | .setAttention acc tag body => Sys2Proof.Machine.execSetAttention acc tag body s
  | .loopRestart acc tag body => Sys2Proof.Machine.execLoopRestart acc tag body s
  | .queryStations acc tag body => Sys2Proof.Machine.execQueryStations acc tag body s
  | .queryLoop acc tag body => Sys2Proof.Machine.execQueryLoop acc tag body s
  | .queryCadences acc tag body => Sys2Proof.Machine.execQueryCadences acc tag body s
  | .queryHolds acc tag body => Sys2Proof.Machine.execQueryHolds acc tag body s
  | .cancel acc tag body => Sys2Proof.Machine.execCancel acc tag body s
  | .inputWordArrival acc word => Sys2Proof.Machine.execInputWordArrival acc word s
  | .inputReadFail acc => Sys2Proof.Machine.execInputReadFail acc s
  | .pauseExpiry ctx => Sys2Proof.Machine.execPauseExpiry ctx s
  | .awaitGapExpiry ctx => Sys2Proof.Machine.execAwaitGapExpiry ctx s
  | .frameTransmitEnd => Sys2Proof.Machine.execFrameTransmitEnd s
  | .replyArrival sequence station ack ready data => Sys2Proof.Machine.execReplyArrival sequence station ack ready data s
  | .frameReturned frame => Sys2Proof.Machine.execFrameReturned frame s
  | .badCheckFrame => Sys2Proof.Machine.execBadCheckFrame s
  | .attentionArrival station code => Sys2Proof.Machine.execAttentionArrival station code s
  | .syncArrival pattern => Sys2Proof.Machine.execSyncArrival pattern s
  | .unexpectedTypeFrame => Sys2Proof.Machine.execUnexpectedTypeFrame s
  | .lineLoss => Sys2Proof.Machine.execLineLoss s
  | .replyTimeout => Sys2Proof.Machine.execReplyTimeout s
  | .quietTimerExpiry => Sys2Proof.Machine.execQuietTimerExpiry s
  | .syncTimerExpiry => Sys2Proof.Machine.execSyncTimerExpiry s
  | .syncQuietExpiry => Sys2Proof.Machine.execSyncQuietExpiry s
  | .cadenceLoopDownStop => Sys2Proof.Machine.execCadenceLoopDownStop s
  | .settleTimerExpiry => Sys2Proof.Machine.execSettleTimerExpiry s
  | .cadenceTrigger cadence => Sys2Proof.Machine.execCadenceTrigger cadence s
  | .resetInputRelease => Sys2Proof.Machine.execResetInputRelease s
  | .linkTrained => Sys2Proof.Machine.execLinkTrained s

end Sys2Proof.Machine
end

