-- ==== Sys2Proof/Machine/LoopFrame.lean ====
section
/-! DEFINITION. The loop frame on the line (section 11.11): its control word, its check, its 96 bits, and the
receiver's framing, which turns line bits into the commands that arrivals are (R54, R59, R182). The receiver's
place after a reset, a frame or a line loss is a field of the Loop Port; the bits move it in front of the command queue (log
entry 26). -/

namespace Sys2Proof.Machine

open Sys2Proof

/-- The start delimiter, A659h. -/
def delimiter : BitVec 16 := 0xA659

/-- One bit of the check computation (R182). -/
def checkBit (crc : BitVec 16) (b : Bool) : BitVec 16 :=
  let shifted := crc <<< 1
  if b != crc.msb then shifted ^^^ 0x1021 else shifted

/-- The bits of a field in transmitted order, most significant first. -/
def bitsOf {w : Nat} (b : BitVec w) : List Bool := (List.range w).map fun i => b.getMsbD i

/-- The check over the control word and the data word in transmitted order (R182). -/
def checkOf (control data : Word) : BitVec 16 :=
  (bitsOf control ++ bitsOf data).foldl checkBit 0xFFFF

end Sys2Proof.Machine

namespace Sys2Proof

open Sys2Proof.Machine

/-- The control word, bits 16-47 of the frame, most significant bit first. -/
def LoopFrame.control (f : LoopFrame) : Word :=
  f.type ++ f.sequence ++ f.station ++ f.opClass ++ f.register ++ f.width ++ BitVec.ofBool f.ack ++
    BitVec.ofBool f.ready ++ (0#8)

/-- The check of a frame (R182). -/
def LoopFrame.check (f : LoopFrame) : BitVec 16 := checkOf f.control f.data

/-- The 96 bits of a frame, in transmitted order. -/
def LoopFrame.bits (f : LoopFrame) : List Bool :=
  bitsOf delimiter ++ bitsOf f.control ++ bitsOf f.data ++ bitsOf f.check

/-- The frame that a control word and a data word spell; bits 40-47 are not examined (R182). -/
def LoopFrame.ofWords (control data : Word) : LoopFrame :=
  { type := control.extractLsb' 29 3, sequence := control.extractLsb' 26 3, station := control.extractLsb' 20 6,
    opClass := control.extractLsb' 18 2, register := control.extractLsb' 12 6, width := control.extractLsb' 10 2,
    ack := control.getLsbD 9, ready := control.getLsbD 8, data }

/-- The command that a good-check frame is, by its type (R54, R56, R62, R110, R182). -/
def LoopFrame.arrival (f : LoopFrame) : Instr :=
  if f.type = 1 ∨ f.type = 5 then .frameReturned f
  else if f.type = 2 then .replyArrival f.sequence f.station f.ack f.ready f.data
  else if f.type = 3 then .attentionArrival f.station f.data
  else if f.type = 4 then .syncArrival f.data
  else .unexpectedTypeFrame

end Sys2Proof

namespace Sys2Proof.Machine

open Sys2Proof

/-- The command that 80 received bits after a delimiter are: control word, data word, check (R182). -/
def received (control data : Word) (check : BitVec 16) : Instr :=
  if checkOf control data = check then (LoopFrame.ofWords control data).arrival else .badCheckFrame

/-- Shift one bit in at the low end. -/
def shiftIn (b : BitVec 16) (x : Bool) : BitVec 16 := (b <<< 1) ||| BitVec.ofNat 16 (bit x)

/-- The number that bits in transmitted order spell. -/
def numberOf (l : List Bool) : Nat := l.foldl (fun n b => 2 * n + bit b) 0

/-- The command that the 80 bits after a delimiter are. -/
def receivedBits (l : List Bool) : Instr :=
  received (BitVec.ofNat 32 (numberOf (l.take 32))) (BitVec.ofNat 32 (numberOf ((l.drop 32).take 32)))
    (BitVec.ofNat 16 (numberOf (l.drop 64)))

/-- The receiver takes one bit: its next place, and the command it hands on, if any (R182). A delimiter that is looked for
after a loss of framing may begin within the sixteen bits that were no delimiter, or at the zero that follows a frame, but
with no bit before them (log entry 26). -/
def Framing.next (f : Framing) (x : Bool) : Framing × Option Instr :=
  match f with
  | .between one =>
    if x then (.between true, none)
    else if one then (.opening 2 14, none)
    else (.lost (shiftIn 0 x) 1, some .lineLoss)
  | .opening bits left =>
    let bits' := shiftIn bits x
    if left ≤ 1 then
      if bits' = delimiter then (.inside [] 80, none) else (.lost bits' 16, some .lineLoss)
    else (.opening bits' (left - 1), none)
  | .inside bits left =>
    if left ≤ 1 then (.between false, some (receivedBits (bits.reverse ++ [x])))
    else (.inside (x :: bits) (left - 1), none)
  | .lost last seen =>
    let last' := shiftIn last x
    if 16 ≤ seen + 1 ∧ last' = delimiter then (.inside [] 80, none) else (.lost last' (seen + 1), none)

/-- The commands that a run of line bits hands on, oldest first, and the receiver's place after it. -/
def Framing.receive : Framing → List Bool → Framing × List Instr
  | f, [] => (f, [])
  | f, x :: l =>
    let r := f.next x
    let rest := r.1.receive l
    (rest.1, r.2.toList ++ rest.2)

/-- What the receiver makes of the bits that arrive after its last report or a reset (R182). -/
def LoopPort.hears (l : LoopPort) (bits : List Bool) : Framing × List Instr := l.receiver.receive bits

end Sys2Proof.Machine
end

