-- ==== Sys2Proof/Safety.lean ====
section
/-! DEFINITION. The invariants of the part: what holds of every state that a run reaches, in the terms that statements
use. Each is a decidable test of a state. -/

namespace Sys2Proof.Machine

open Sys2Proof

/-- The records of a window carry consecutive sequence numbers, the last one just below the counter (R48). -/
def consecutive : List InFlight → BitVec 3 → Bool
  | [], _ => true
  | r :: l, counter => r.sequence == counter - BitVec.ofNat 3 (l.length + 1) && consecutive l counter

/-- Whether a record of the window was granted to a context. -/
def InFlight.ofContext (r : InFlight) : Bool :=
  match r.owner with
  | .context _ => true
  | .reconfigure => false

/-- The window by loop state: at most four records, all granted to contexts, in OPEN and DRAINING, at most one, a SWITCH
of the RECONFIGURE, in SWITCHING, none elsewhere, and their sequence numbers consecutive up to the counter (R48, R60, R62,
R82). -/
def LoopPort.windowOk (l : LoopPort) : Bool :=
  consecutive l.window l.sequence &&
    match l.state with
    | .opened => decide (l.window.length ≤ Config.windowSize) && l.window.all InFlight.ofContext
    | .draining => decide (l.window.length ≤ Config.windowSize) && l.window.all InFlight.ofContext
    | .switching => decide (l.window.length ≤ 1) && l.window.all fun r => !r.ofContext
    | _ => l.window.isEmpty

/-- The guard count stays within 0-8 (R52). -/
def LoopPort.guardOk (l : LoopPort) : Bool := decide (l.guard ≤ Config.guardLimit)

/-- The attention set holds at most one entry per station, and no entry outside stations 1-40 (R109). -/
def attentionOk (l : List Attention) : Bool :=
  decide ((l.map fun e => e.station).Nodup) && l.all fun e => decide (1 ≤ e.station.toNat ∧ e.station.toNat ≤ 40)

/-- The arena indices in custody, in slot order. -/
def State.custodyIndices (s : State) : List Nat := s.intake.custody.toList.filterMap fun x => x.map Slot.index

/-- No arena index is in custody twice (R138). -/
def State.custodyOk (s : State) : Bool := decide s.custodyIndices.Nodup

/-- A load in progress writes within the store and has steps left to write (R6, R7). -/
def Store.loadOk (s : Store) : Bool :=
  match s.load with
  | some l => decide (l.dest + l.count ≤ Config.storeSize) && decide (l.written < l.count)
  | none => true

/-! ### What follows an event -/

/-- Whether the Queue Unit's requester waits for an operation of a queue: the taker LOOKING, the poster with a slot in
hand, the notice engine removing (R141, R154, R115). -/
def State.waitsFor (s : State) : Queue → Bool
  | .request => s.intake.taker == .looking
  | .done => s.intake.posting.isSome
  | .spare => s.notice.removing

/-- An operation that is not yet RELEASING has a requester that waits for it, and none for the request queue stands in
STOPPED or STARTING (R125, R162). -/
def State.requestersOk (s : State) : Bool :=
  (allQueues.all fun q => s.waitsFor q || !s.phaseIs q (· != .releasing)) &&
    (!s.phaseIs .request (· != .releasing) || (s.engine.state != .stopped && s.engine.state != .starting))

/-- The Loop Port has nothing to do before the next arrival, expiry or end of a transmission: no grant to make, no
DRAINING to end, no SYNC or SWITCH frame to send (R47, R50, R81). -/
def State.loopWaits (s : State) : Bool :=
  !(s.canGrant && s.pick.isSome) && !(s.loop.state == .draining && s.loop.window.isEmpty) &&
    !(s.loop.sendDue && s.loop.transmitting.isNone)

/-- No turn is left at the contexts and the Loop Port: the Loop Port waits, no context in CHECKING is held back any longer,
and nothing pending can start (log entry 18). -/
def State.calm (s : State) : Bool :=
  s.loopWaits && s.released.isEmpty &&
    (s.intake.pendingList.isEmpty || ((s.ctx ctxA).state != .idle && (s.ctx ctxB).state != .idle))

/-- The taker has no look to make: it is not BLOCKED, and if it is DISPATCHING its frame is still TAKEN (R141, R142). -/
def State.takerRests (s : State) : Bool :=
  s.intake.taker != .blocked && (s.intake.taker != .dispatching || s.anyTaken)

/-- The poster has nothing to ask for: it waits for an insertion, or no slot is READY (R154). -/
def State.posterRests (s : State) : Bool := s.intake.posting.isSome || s.oldestReady.isNone

/-- Intake and the Queue Unit have nothing to do at once: the taker and the poster rest, the notice engine may not begin a
removal, and no claim is due (R115, R124, R141, R154). -/
def State.intakeRests (s : State) : Bool :=
  s.takerRests && s.posterRests && !s.noticeAble && s.deferredQueues.isEmpty

/-- The taker's state once its frame has left TAKEN: a look to make, BLOCKED until it begins, or IDLE when the engine is not
RUNNING; any other taker is as it is (R141, R142). -/
def State.takerNow (s : State) : TakerState :=
  if s.active = true ∧ s.intake.taker = .dispatching ∧ s.anyTaken = false then
    if s.engine.state = .running then .blocked else .idle
  else s.intake.taker

/-- Whether the taker has a look to make that it may begin: the engine RUNNING, no slot TAKEN, fewer than 16 entries pending,
five slots available (R141). -/
def State.takerMay (s : State) : Bool :=
  s.engine.state == .running && s.takerNow == .blocked && !s.anyTaken && decide (s.intake.pendingList.length < 16) &&
    decide (5 ≤ s.available)

/-- The slot that the poster has in hand: the one whose insertion is in progress, else the READY slot with the lowest ready
order number, whose insertion it begins (R154). -/
def State.posterNow (s : State) : Option (Fin 40) :=
  if s.active = true ∧ s.intake.posting = none then s.oldestReady else s.intake.posting

/-- What the poster issues when it begins an insertion: the 0 in the next link of the frame to insert (R131). -/
def State.linkZero (s : State) : List Issue :=
  if s.active = true ∧ s.intake.posting = none then
    match s.oldestReady.bind s.slot with
    | some x => if x.index = 0 then [] else [.write (s.frameAddr x.index) (zeros 4)]
    | none => []
  else []

/-- An operation that its requester has just asked for, in a phase (R125). -/
def QueueOp.fresh (p : Phase) (frame : Nat) : QueueOp :=
  { phase := p, attempt := 1, timer := none, stall := none, stalled := false, frame }

/-- What carries over from `s` to `t` when the taker, the poster, the notice engine and the Queue Unit go on at the end of
an event and a QUIESCE may reach its end: everything but what the fields name. Nothing is issued but the 0 in the next link
of a frame whose insertion begins, and one claim, only while no lock is held. -/
structure Wakes (s t : State) : Prop where
  pending : t.pending = s.pending
  engine : t.engine = s.engine ∨ s.engine.state = .quiescing ∧ t.engine = { s.engine with state := .stopped }
  store : t.store = s.store
  contexts : t.contexts = s.contexts
  loop : t.loop = s.loop ∨ s.engine.state = .quiescing ∧ t.loop = s.loop.stop
  stations : t.stations = s.stations
  cadences : t.cadences = s.cadences
  attention : t.attention = s.attention
  lock : t.queues.lock = s.queues.lock
  /-- A requester that waits goes on waiting. -/
  waits : ∀ q, s.waitsFor q = true → t.waitsFor q = true
  /-- An operation stays as it is, or its claim, which was due, is issued; or a requester that waited for none begins one. -/
  ops : ∀ q, t.queues.op q = s.queues.op q ∨
    (∃ o, s.queues.op q = some o ∧ o.phase = .deferred ∧
      t.queues.op q = some { o with phase := .claiming s.link.nextAcc }) ∨
    s.waitsFor q = false ∧ t.waitsFor q = true ∧ ∃ p frame, t.queues.op q = some (QueueOp.fresh p frame) ∧
      (p = .deferred ∨ p = .claiming s.link.nextAcc)
  /-- The taker begins the look it has to make, or is as its frame left it; at the end of a QUIESCE it is IDLE. -/
  taker : s.takerMay = true ∧ t.intake.taker = .looking ∧ t.intake.promptSeen = false ∨
    (t.intake.taker = s.takerNow ∨ s.engine.state = .quiescing ∧ t.intake.taker = .idle) ∧
      t.intake.promptSeen = s.intake.promptSeen
  /-- A taker that may begin does, unless the notice engine takes the slot it needs. -/
  takerBegins : s.takerMay = true → s.available ≠ 5 ∨ s.noticeAble = false → t.intake.taker = .looking
  /-- The notice engine stays as it is, or begins a removal it may begin. -/
  notice : t.notice = s.notice ∨
    s.noticeAble = true ∧ t.notice = { s.notice with removing := true, promptSeen := false }
  /-- It begins outside an episode, and within one after a prompt. -/
  noticeBegins : s.noticeAble = true → s.notice.episode = false ∨ s.notice.promptSeen = true → t.notice.removing = true
  posting : t.intake.posting = s.posterNow
  custody : t.intake.custody = s.intake.custody
  pendingList : t.intake.pendingList = s.intake.pendingList
  readyCounter : t.intake.readyCounter = s.intake.readyCounter
  pins : t.pins = s.pins
  link : t.link = { nextAcc := s.link.nextAcc, issued := s.link.issued ++ s.linkZero } ∨
    s.queues.lock = none ∧ ∃ q, t.phaseIs q (· == .claiming s.link.nextAcc) = true ∧
      t.link = { nextAcc := s.link.nextAcc + 1,
                 issued := s.link.issued ++ s.linkZero ++ [.compareSwap s.link.nextAcc (s.headerAddr q) 0 2] }
  /-- A claim that is due goes out when it may. -/
  claims : s.active = true → s.mayClaim = true → s.deferredQueues ≠ [] → t.link.nextAcc = s.link.nextAcc + 1

/-- What the contexts and the Loop Port issue in a turn: posted writes, reads and loop frames (R22, R35, R47, R153). -/
def Issue.ofTurn : Issue → Bool
  | .write _ _ => true
  | .read _ _ _ => true
  | .frame _ => true
  | _ => false

/-- What carries over from `s` to `t` at the end of any event, whatever turns are left at the contexts and the Loop Port:
the engine but for the end of a QUIESCE, the steps and the load of the store, the counters but frames sent, the records of
the window in OPEN and DRAINING, the line-loss latch, the Station Table, the attention set, the spares episode, the lock and
the pins. The issue log grows at its end, by posted writes, reads, loop frames and claims alone. -/
structure Settles (s t : State) : Prop where
  pending : t.pending = s.pending
  engine : t.engine = s.engine ∨ s.engine.state = .quiescing ∧ t.engine = { s.engine with state := .stopped }
  steps : t.store.steps = s.store.steps
  load : t.store.load = s.store.load
  stats : t.loop.stats = { s.loop.stats with framesSent := t.loop.stats.framesSent }
  window : s.engine.state ≠ .quiescing → s.loop.state = .opened ∨ s.loop.state = .draining →
    ∃ w, t.loop.window = s.loop.window ++ w
  lineLoss : t.loop.lineLoss = s.loop.lineLoss ∨ s.engine.state = .quiescing ∧ t.loop.lineLoss = false
  receiver : t.loop.receiver = s.loop.receiver
  stations : t.stations = s.stations
  attention : t.attention = s.attention
  episode : t.notice.episode = s.notice.episode
  lock : t.queues.lock = s.queues.lock
  pins : t.pins = s.pins
  issued : ∃ l, t.link.issued = s.link.issued ++ l ∧
    ∀ x ∈ l, x.ofTurn = true ∨ ∃ acc q, x = .compareSwap acc (s.headerAddr q) 0 2
  nextAcc : s.link.nextAcc ≤ t.link.nextAcc

/-! ### Frames that are sent -/

/-- The state once the grant to context `i` has been made: its COMMAND is on the line and stands last in the window under
the sequence counter's value, the counter has gone on, and the grant is noted (R24, R47, R48, R51, R52, R68). -/
def State.sent (s : State) (i : CtxId) : State :=
  let c := s.ctx i
  let frame : LoopFrame :=
    { type := 1, sequence := s.loop.sequence, station := c.elem.station, opClass := c.elem.access.code,
      register := c.elem.register, width := c.elem.width.code, ack := false, ready := false, data := c.frameData }
  { s with
    contexts := s.contexts.set i { c with attempts := c.attempts + 1, state := .awaitingReply },
    loop := { s.loop with
      transmitting := some frame,
      window := s.loop.window ++
        [{ sequence := s.loop.sequence, owner := .context i, frame, sendTime := none, deadline := none }],
      sequence := s.loop.sequence + 1,
      lastCadence := (cadenceOf i).getD s.loop.lastCadence,
      lastRequestB := if i.val < 8 then s.loop.lastRequestB else i == ctxB,
      guard := if i.val < 8 ∧ s.pickRequest.isSome = true then s.loop.guard + 1 else 0,
      stats := { s.loop.stats with framesSent := satInc s.loop.stats.framesSent } },
    link := { s.link with issued := s.link.issued ++ [.frame frame] } }

/-- The state when no context but `i` can be eligible: if it is, it is granted at once where the engine carries on work, the
loop is OPEN, the window has a place and the transmitter is free, else it waits (R50). -/
def State.offered (s : State) (i : CtxId) : State :=
  if s.active = true ∧ s.canGrant = true ∧ (s.ctx i).eligible = true then s.sent i else s

/-- The state with the SWITCH frame for a RECONFIGURE's current station sent, the only record of the window; while the
transmitter is busy the frame is due (R47, R48, R68, R71, R82). -/
def State.switchSent (s : State) (x : Reconfigure) : State :=
  let frame : LoopFrame :=
    { type := 5, sequence := s.loop.sequence, station := BitVec.ofNat 6 x.current, opClass := 0, register := 0, width := 0,
      ack := false, ready := false, data := if x.bypass.getLsbD x.current = true then 1 else 2 }
  if s.loop.transmitting = none then
    { s with
      loop := { s.loop with
        state := .switching, sendDue := false, op := some (.reconfigure { x with sent := x.sent + 1 }),
        window := [{ sequence := s.loop.sequence, owner := .reconfigure, frame, sendTime := none, deadline := none }],
        sequence := s.loop.sequence + 1, transmitting := some frame,
        stats := { s.loop.stats with framesSent := satInc s.loop.stats.framesSent } },
      link := { s.link with issued := s.link.issued ++ [.frame frame] } }
  else { s with loop := { s.loop with state := .switching, sendDue := true, op := some (.reconfigure x) } }

/-! ### Records written and faults raised -/

/-- The state with more issued behind what was issued before (R123). -/
def State.issueAll (s : State) (l : List Issue) : State :=
  { s with link := { s.link with issued := s.link.issued ++ l } }

/-- The Queue Unit with its lock field replaced. -/
def QueueUnit.setLock (u : QueueUnit) (l : Option Lock) : QueueUnit := { u with lock := l }

/-- What finishing the frame of index `k` issues: its result fields, and the result bytes at an offset of its body, when
there are any (R153; log entry 21). -/
def State.resultWrites (s : State) (k : Nat) (d : DoneRecord) (offset : Nat) (bytes : List Byte) : List Issue :=
  [.write (s.frameAddr k + 0x05) (le 1 d.result ++ le 1 d.stepError ++ le 1 d.station),
    .write (s.frameAddr k + 0x10) (le32 d.countA ++ le32 d.countB ++ le 2 d.stepIndex)] ++
    (if bytes = [] then [] else [.write (s.frameAddr k + BitVec.ofNat 64 (0x20 + offset)) bytes])

/-- The state with the frame of slot `i` finished: `x` is the slot as it stands READY but for its order number, the ready
counter has gone up by one, and the result is written (R152, R153). -/
def State.finished (s : State) (i : Fin 40) (x : Slot) (d : DoneRecord) (offset : Nat := 0) (bytes : List Byte := []) :
    State :=
  { s with
    intake := { s.intake with
      custody := s.intake.custody.set i (some { x with state := .ready, readyNumber := s.intake.readyCounter }),
      readyCounter := s.intake.readyCounter + 1 },
    link := { s.link with issued := s.link.issued ++ s.resultWrites x.index d offset bytes } }

/-- The slot of a request as the dispatcher keeps it: its record read, no read outstanding (R144). -/
def Slot.kept (x : Slot) (kind : Byte) (tag : BitVec 64) (body : Body) : Slot :=
  { x with record := some { kind, tag, body }, readAcc := none }

/-- The state after entry to FAULTED with a code and a detail: the FAULT cause set, a message sent when the set was empty
and messages are enabled, the Loop Port frozen, all else as it stood (R46, R165, R169, R170). -/
def State.faulted (s : State) (code : FaultCode) (detail : BitVec 18) : State :=
  { s with
    engine := { s.engine with state := .faulted, faultCode := code, faultDetail := detail,
                              causes := s.engine.causes ||| Cause.fault.mask },
    loop := s.loop.freeze,
    link := { s.link with
      issued := s.link.issued ++ if s.engine.causes = 0 ∧ s.engine.messageEnable then [.message] else [] } }

end Sys2Proof.Machine
end

