-- ==== Sys2Proof/WellFormed.lean ====
section
/-! DEFINITION. Which commands are well formed: each row of the table with the operands that are its own. -/

namespace Sys2Proof

open Sys2Proof.Machine

/-- Whether a write to the window is of one of the forms REGISTER_WRITE stands for, which the part ignores: fewer than
four bytes of one register, ENGINE STATUS, or offsets 18h-1Fh (R166). -/
def ignoredWrite (offset bytes : Nat) : Bool :=
  decide (1 ≤ bytes ∧ offset % 4 + bytes ≤ 4 ∧ offset < 0x20) &&
    (decide (bytes < 4) || offset == 0x0C || decide (0x18 ≤ offset))

/-- Whether a QUERY body belongs to a subject's row: it names that subject, or none of the four (R172). -/
def queryRow (body : Body) (subject : Byte) : Bool :=
  querySubject body == subject || !(decide (1 ≤ (querySubject body).toNat ∧ (querySubject body).toNat ≤ 4))

/-- Whether a command's operands are its row's own. -/
def Instr.wf : Instr → Bool
  | .powerOnReset => true
  | .hostLinkReset => true
  | .enable => true
  | .quiesce => true
  | .softReset => true
  | .promptRequest => true
  | .promptSpare => true
  | .causeWrite _ => true
  | .anchorWrite _ _ => true
  | .registerWrite offset bytes _ => ignoredWrite offset bytes
  | .anchorReadOutcome _ _ => true
  | .lockClaimOutcome _ _ => true
  | .lockBackoffExpiry _ => true
  | .contentionPauseExpiry _ => true
  | .stallTimerExpiry _ => true
  | .headerReadOutcome _ _ _ _ => true
  | .linkReadOutcome _ _ => true
  | .queueReadFail _ => true
  | .lockReleaseOutcome _ _ => true
  | .frameReadFail _ => true
  | .badKind _ kind _ _ => decide (kind.toNat < 1 ∨ 12 < kind.toNat)
  | .loadProgram _ _ _ => true
  | .loadSourceArrival _ _ => true
  | .loadSourceReadFail _ => true
  | .run _ _ _ => true
  | .exchange _ _ _ => true
  | .startCadence _ _ _ => true
  | .stopCadence _ _ _ => true
  | .release _ _ _ => true
  | .survey _ _ _ => true
  | .reconfigure _ _ _ => true
  | .setAttention _ _ _ => true
  | .loopRestart _ _ _ => true
  | .queryStations _ _ body => queryRow body stationsSubject
  | .queryLoop _ _ body => queryRow body loopSubject
  | .queryCadences _ _ body => queryRow body cadencesSubject
  | .queryHolds _ _ body => queryRow body holdsSubject
  | .cancel _ _ _ => true
  | .inputWordArrival _ _ => true
  | .inputReadFail _ => true
  | .pauseExpiry _ => true
  | .awaitGapExpiry _ => true
  | .frameTransmitEnd => true
  | .replyArrival _ _ _ _ _ => true
  | .frameReturned frame => frame.type == 1 || frame.type == 5
  | .badCheckFrame => true
  | .attentionArrival _ _ => true
  | .syncArrival _ => true
  | .unexpectedTypeFrame => true
  | .lineLoss => true
  | .replyTimeout => true
  | .quietTimerExpiry => true
  | .syncTimerExpiry => true
  | .syncQuietExpiry => true
  | .cadenceLoopDownStop => true
  | .settleTimerExpiry => true
  | .cadenceTrigger _ => true
  | .resetInputRelease => true
  | .linkTrained => true

end Sys2Proof
end

