-- ==== Sys2Proof/Certificates/Slice0/Obligations.lean ====
section
/-! DEFINITION. The statements for the provers, from the spec's numbered rules. A statement about a command gives the next
state: exactly, or as a state `u` written out from the rules and what the end of the event then leaves of it (`Wakes u t`,
which keeps everything but what Intake and the Queue Unit begin; or `Settles u t`, when the contexts and the Loop Port may go
on as well). A log entry that a docstring names is a choice of the model's that the statement rests on; entry 21 is how a
record is cut into writes, 8 how a read is cut. -/

open Sys2Proof Sys2Proof.Machine

/-! ### The machine -/

/-- A step takes the command at the front of the queue and runs it with the queue's rest. -/
def Obligations.StepRunsFrontCommand : Prop :=
  ∀ (c : Instr) (rest : List Instr) (s : State),
    step { s with pending := c :: rest } = exec c { s with pending := rest }

/-- On an empty queue one microsecond passes (log entry 1, the model's choice of where time passes): the time base
counts up, modulo 2^32, every running timer counts down, the ready-wait of a started, busy context grows while the
loop is OPEN, and nothing else of the part changes; in FAULTED and under the reset input nothing moves (R30, R165,
R171). The message-enable input is sampled then, with any value, while the endpoint answers; else it stays as it is
(R170; log entry 10). -/
def Obligations.IdleStepPassesMicrosecond : Prop :=
  ∀ s : State, s.pending = [] → ∃ t, step s = .next t ∧
    { t.pins with samples := s.pins.samples } = s.pins ∧
    (s.windowAnswers = false → t.engine.messageEnable = s.engine.messageEnable ∧ t.pins = s.pins) ∧
    (s.live = false →
      { t with engine := { t.engine with messageEnable := s.engine.messageEnable }, pins := s.pins } = s) ∧
    (s.live = true →
      { t with contexts := s.contexts, cadences := s.cadences, queues := s.queues, pins := s.pins } =
        { s with
          engine := { s.engine with timeBase := s.engine.timeBase + 1, messageEnable := t.engine.messageEnable },
          loop := { s.loop with quietTimer := s.loop.quietTimer.map (· - 1),
                                settleTimer := s.loop.settleTimer.map (· - 1),
                                syncTimer := s.loop.syncTimer.map (· - 1) } } ∧
      (∀ i, t.ctx i = { s.ctx i with
        timer := (s.ctx i).timer.map (· - 1),
        readyWait := (s.ctx i).readyWait +
          if s.loop.state = .opened ∧ (s.ctx i).readyOn = true ∧ (s.ctx i).state ≠ .idle then 1 else 0 }) ∧
      (∀ n, t.cad n = { s.cad n with trigger := (s.cad n).trigger.map (· - 1) }) ∧
      (∀ q, t.queues.op q = (s.queues.op q).map fun o =>
        { o with timer := o.timer.map (· - 1), stall := o.stall.map (· - 1) }) ∧
      t.queues.lock = s.queues.lock)

/-- The state after reset meets every invariant of Safety; nothing waits in the queue, and every register of the window
reads 0: STOPPED, loop DOWN, no fault, no cause, no anchor. -/
def Obligations.ResetMeetsInvariants : Prop :=
  State.reset.loop.windowOk = true ∧ State.reset.loop.guardOk = true ∧ State.reset.store.wf = true ∧
    State.reset.store.loadOk = true ∧ attentionOk State.reset.attention = true ∧ State.reset.custodyOk = true ∧
    State.reset.requestersOk = true ∧ State.reset.pending = [] ∧
    ∀ offset bytes : Nat, State.reset.readWindow offset bytes = some (List.replicate bytes 0)

/-- Every step keeps the in-flight window as R48 and R82 give it (sequence numbers consecutive up to the counter, at
most four records, all of contexts, in OPEN and DRAINING, at most one, the RECONFIGURE's, in SWITCHING, none in any
other loop state) and the guard count within 0-8 (R52). -/
def Obligations.StepKeepsWindowAndGuard : Prop :=
  ∀ s t : State, step s = .next t →
    (s.loop.windowOk = true → t.loop.windowOk = true) ∧ (s.loop.guardOk = true → t.loop.guardOk = true)

/-- Every step keeps the form of the tables, each by itself: no arena index in custody twice (R138); at most one
attention entry a station, stations 1-40 only (R109); the store's locations rising and below 2048, with the load in
progress inside it (R1, R7). -/
def Obligations.StepKeepsTables : Prop :=
  ∀ s t : State, step s = .next t →
    (s.custodyOk = true → t.custodyOk = true) ∧
    (attentionOk s.attention = true → attentionOk t.attention = true) ∧
    (s.store.wf = true → s.store.loadOk = true → t.store.wf = true ∧ t.store.loadOk = true)

/-- Every step keeps a requester for each operation that still works: the taker LOOKING, the poster with its slot, the
notice engine removing (R115, R125, R141, R154). -/
def Obligations.StepKeepsRequesters : Prop :=
  ∀ s t : State, step s = .next t → s.requestersOk = true → t.requestersOk = true

/-- What a step has issued stays issued, in its order, and access numbers never go back (R123; log entries 3, 4). -/
def Obligations.StepAppendsToIssueLog : Prop :=
  ∀ s t : State, step s = .next t →
    (∃ l, t.link.issued = s.link.issued ++ l) ∧ s.link.nextAcc ≤ t.link.nextAcc

/-- The store's contents are written only by the copy phase of LOAD PROGRAM, at the next location of the load in
progress, and by power-on and host-link reset, which leave it VACANT (R1). -/
def Obligations.OnlyLoadsAndHardResetsWriteStore : Prop :=
  ∀ (c : Instr) (s t : State) (k : Nat), exec c s = .next t →
    fetchStep t.store.steps k ≠ fetchStep s.store.steps k →
    (∃ acc image l, c = .loadSourceArrival acc image ∧ s.loading acc = some l ∧ k = l.dest + l.written ∧
      fetchStep t.store.steps k = Step.ofImage image) ∨
    ((c = .powerOnReset ∨ c = .hostLinkReset) ∧ fetchStep t.store.steps k = none)

/-- While the engine is FAULTED only a reset changes a block other than Engine Control, and only a reset leaves
FAULTED or changes the fault code and detail; and nothing is issued but, by a write to CAUSE that leaves causes, the
interrupt message (R165, R169). -/
def Obligations.FaultedPartIsFrozen : Prop :=
  ∀ (c : Instr) (s t : State), s.engine.state = .faulted → exec c s = .next t →
    c = .powerOnReset ∨ c = .hostLinkReset ∨ c = .softReset ∨ c = .registerWrite 0x08 4 3 ∨
    (t.engine = { s.engine with causes := t.engine.causes } ∧ t.store = s.store ∧ t.contexts = s.contexts ∧
      t.loop = s.loop ∧ t.stations = s.stations ∧ t.cadences = s.cadences ∧ t.attention = s.attention ∧
      t.notice = s.notice ∧ t.queues = s.queues ∧ t.intake = s.intake ∧ t.pending = s.pending ∧
      (t.link = s.link ∨ (∃ v, c = .causeWrite v ∨ c = .registerWrite 0x14 4 v) ∧
        t.link = { s.link with issued := s.link.issued ++ [.message] }))

/-- The step test and the layout of a step agree: every step within its ranges is read back from its 16 bytes, and
every 16 bytes that pass the step test are the layout of the step they yield, no bit left unexamined (R3, R4, section
11.5). -/
def Obligations.StepImagesRoundTrip : Prop :=
  (∀ st : Step, st.wf = true → Step.ofImage st.toImage = some st) ∧
    ∀ (b : StepImage) (st : Step), Step.ofImage b = some st → st.wf = true ∧ st.toImage = b

/-- The receiver, standing between frames on a line at one, or right behind a frame, or as a reset leaves it, hands on
exactly the command a frame stands for after the frame's 96 bits, and stands between frames again (R182, section
11.11; the receiver's place as a field is log entry 26). -/
def Obligations.SentFrameIsReceived : Prop :=
  ∀ f : LoopFrame,
    (∀ one : Bool, Framing.receive (.between one) f.bits = (.between false, [f.arrival])) ∧
    (∀ t : State, exec .powerOnReset State.reset = .next t → t.loop.hears f.bits = (.between false, [f.arrival])) ∧
    ∀ s : State, s.framed.loop.hears f.bits = (.between false, [f.arrival])

/-! ### Resets and registers (chapter 9) -/

/-- Power-on and host-link reset: every field as after reset, but what waits in the queue, what has been issued, the
free choices and the pins, even a frame on the line (log entry 11) and the fields that are the model's own (log entry
32); the register window does not answer until the reset input is released, and after the link's loss until it has been
trained, each of which changes its pin and nothing else (R164; log entries 4, 5, 9). -/
def Obligations.HardResetsClearPart : Prop :=
  ∀ s : State,
    exec .powerOnReset s = .next { State.reset with
      pending := s.pending, link := s.link, choices := s.choices, pins := { s.pins with resetAsserted := true } } ∧
    exec .hostLinkReset s = .next { State.reset with
      pending := s.pending, link := s.link, choices := s.choices, pins := { s.pins with linkTrained := false } } ∧
    exec .resetInputRelease s = .next { s with pins := { s.pins with resetAsserted := false } } ∧
    exec .linkTrained s = .next { s with pins := { s.pins with linkTrained := true } } ∧
    ∀ u : State, u.windowAnswers = true ↔ u.pins.resetAsserted = false ∧ u.pins.linkTrained = true

/-- SOFT RESET: as after reset, but the steps of the store, the ANCHOR registers and the endpoint's message enable are
kept, and so are the state and the ident of a BYPASSED station (R163, R72; log entries 4, 5; that the message enable
is kept is log entry 10, that a frame on the line is forgotten log entry 11, the model's own fields log entry 32). -/
def Obligations.SoftResetKeepsStepsAndBypass : Prop :=
  ∀ s : State, s.windowAnswers = true → ∃ t, exec .softReset s = .next t ∧
    { t with stations := s.stations } =
      { State.reset with
        pending := s.pending, link := s.link, choices := s.choices, pins := s.pins, stations := s.stations,
        engine := { Engine.afterReset with anchorLow := s.engine.anchorLow, anchorHigh := s.engine.anchorHigh,
                                           messageEnable := s.engine.messageEnable },
        store := { State.reset.store with steps := s.store.steps } } ∧
    ∀ p : Fin 40, t.stations[p] =
      if s.stations[p].state = .bypassed then { s.stations[p] with attention := true }
      else { state := .unknown, attention := true, ident := 0 }

/-- ANCHOR LOW and ANCHOR HIGH take a write in STOPPED and ignore it in every other state (R166). -/
def Obligations.AnchorTakesWritesInStopped : Prop :=
  ∀ (s : State) (v : Word), s.windowAnswers = true →
    (s.engine.state = .stopped →
      exec (.anchorWrite false v) s = .next { s with engine := { s.engine with anchorLow := v } } ∧
      exec (.anchorWrite true v) s = .next { s with engine := { s.engine with anchorHigh := v } }) ∧
    (s.engine.state ≠ .stopped → ∀ high, exec (.anchorWrite high v) s = .next s)

/-- A write to CAUSE clears the causes written 1 and keeps the others; when some remain, a message is sent, if
messages are enabled (R169, R170). -/
def Obligations.CauseWriteClearsCauses : Prop :=
  ∀ (s : State) (v : Word), s.windowAnswers = true →
    ∃ t, exec (.causeWrite v) s = .next t ∧
      { t with engine := s.engine, link := s.link } = s ∧
      t.engine = { s.engine with causes := t.engine.causes } ∧
      (∀ k : Nat, k < 4 → t.engine.causes.getLsbD k = (s.engine.causes.getLsbD k && !v.getLsbD k)) ∧
      t.link = { s.link with
        issued := s.link.issued ++ if t.engine.causes ≠ 0 ∧ s.engine.messageEnable = true then [.message] else [] }

/-- Writes the window ignores change nothing: of fewer than four bytes, to ENGINE STATUS or to 18h-1Fh (R166); and
while the window does not answer, no register access reaches the part (R164). -/
def Obligations.WindowIgnoresOtherWrites : Prop :=
  (∀ (s : State) (offset bytes : Nat) (v : Word), ignoredWrite offset bytes = true →
    exec (.registerWrite offset bytes v) s = .next s) ∧
  ∀ s : State, s.windowAnswers = false →
    exec .enable s = .next s ∧ exec .quiesce s = .next s ∧ exec .softReset s = .next s ∧
    exec .promptRequest s = .next s ∧ exec .promptSpare s = .next s ∧
    (∀ v, exec (.causeWrite v) s = .next s) ∧ (∀ high v, exec (.anchorWrite high v) s = .next s) ∧
    ∀ offset bytes v, exec (.registerWrite offset bytes v) s = .next s

/-- ENABLE acts in STOPPED alone: an anchor address of 0 or off a 64-byte boundary faults with ANCHOR BAD, check 1; any
other takes the engine to STARTING and issues the anchor read (R157, R158; log entry 8). -/
def Obligations.EnableReadsAnchor : Prop :=
  ∀ s : State, s.windowAnswers = true →
    (s.engine.state ≠ .stopped → exec .enable s = .next s) ∧
    (s.engine.state = .stopped →
      ((s.anchorAddr = 0 ∨ s.anchorAddr.toNat % 64 ≠ 0) →
        exec .enable s = .next (s.faulted .anchorBad (anchorDetail 1 0))) ∧
      (s.anchorAddr ≠ 0 → s.anchorAddr.toNat % 64 = 0 →
        exec .enable s = .next { s with
          engine := { s.engine with state := .starting, anchorRead := some s.link.nextAcc },
          link := { nextAcc := s.link.nextAcc + 1,
                    issued := s.link.issued ++ [.readAnchor s.link.nextAcc s.anchorAddr] } }))

/-- The anchor read's outcome in STARTING: failed, ANCHOR BAD with check 2; with a check that fails, ANCHOR BAD with the
first of checks 3 to 6 that fails, and the window entry or the loop configuration field it names, of several the lowest
(R159, section 11.2; log entry 20). The checks are stated on the bytes read. An outcome nothing waits for changes
nothing. -/
def Obligations.BadAnchorFaults : Prop :=
  ∀ (s : State) (acc : Nat) (image : Option AnchorImage),
    (s.live = true → s.engine.state = .starting → s.engine.anchorRead = some acc →
      exec (.anchorReadOutcome acc none) s = .next (s.faulted .anchorBad (anchorDetail 2 0)) ∧
      ∀ a check further, a.failedCheck = some (check, further) →
        exec (.anchorReadOutcome acc (some a)) s = .next (s.faulted .anchorBad (anchorDetail check further))) ∧
    (¬ (s.live = true ∧ s.engine.state = .starting ∧ s.engine.anchorRead = some acc) →
      exec (.anchorReadOutcome acc image) s = .next s) ∧
    ∀ a : AnchorImage,
      let base := (u64 a.low 0x00).toNat
      let frames := (u32 a.low 0x08).toNat
      let arena := base ≠ 0 ∧ base % 128 = 0 ∧ 2 ≤ frames ∧ frames ≤ 65535 ∧ base + 128 * frames ≤ 2 ^ 64
      let entry := fun e : Nat =>
        let o := 0x18 * e
        u8 a.high (o + 0x11) = 0 ∨ u8 a.high (o + 0x11) = 1 ∧
          (u8 a.high (o + 0x10) = 1 ∨ u8 a.high (o + 0x10) = 2) ∧ u64 a.high (o + 0x08) ≠ 0 ∧
          (u64 a.high o).toNat + (u64 a.high (o + 0x08)).toNat ≤ 2 ^ 64
      let value := fun k : Nat => (u32 a.high (0x100 - 0x40 + 4 * (k - 1))).toNat
      let field := fun k : Nat =>
        if k = 1 then 20 ≤ value 1 ∧ value 1 ≤ 20000
        else if k = 2 then value 2 = 0 ∨ 1 ≤ value 2 ∧ value 2 ≤ 60000
        else if k = 3 then value 3 ≤ 1000
        else if k = 4 then value 4 ≤ 3
        else 100 ≤ value 5 ∧ value 5 ≤ 100000
      let zero := u32 a.low 0x0C = 0 ∧ (∀ e, e < 8 → zeroAt a.high (0x18 * e + 0x12) 6 = true) ∧
        zeroAt a.high (0x114 - 0x40) 12 = true
      (¬ arena → a.failedCheck = some (3, 0)) ∧
      (∀ e, arena → e < 8 → ¬ entry e → (∀ j, j < e → entry j) → a.failedCheck = some (4, e)) ∧
      (∀ k, arena → (∀ e, e < 8 → entry e) → 1 ≤ k → k ≤ 5 → ¬ field k → (∀ j, 1 ≤ j → j < k → field j) →
        a.failedCheck = some (5, k)) ∧
      (arena → (∀ e, e < 8 → entry e) → (∀ k, 1 ≤ k → k ≤ 5 → field k) →
        (¬ zero → a.failedCheck = some (6, 0)) ∧ (zero → a.failedCheck = none))

/-- A good anchor block brings the engine to RUNNING: the configuration in force, the time base 0, the loop in SYNCING
with its first SYNC frame on the line (R159, R160, R62; log entry 8). -/
def Obligations.GoodAnchorStartsEngine : Prop :=
  ∀ (s : State) (acc : Nat) (a : AnchorImage), s.live = true → s.engine.state = .starting →
    s.engine.anchorRead = some acc → a.failedCheck = none → s.released = [] → s.intake.pendingList = [] →
    s.loop.transmitting = none →
    ∃ t u, exec (.anchorReadOutcome acc (some a)) s = .next t ∧ Wakes u t ∧
      u = { s with
        engine := { s.engine with state := .running, config := a.config, timeBase := 0, anchorRead := none },
        loop := { s.loop with
          state := .syncing, window := [], sequence := 0, attempt := 1, settleTimer := none, quietTimer := none,
          syncTimer := none, syncWaits := true, sendDue := false, transmitting := some (syncFrame 1),
          stats := { s.loop.stats with framesSent := satInc s.loop.stats.framesSent } },
        intake := { s.intake with taker := .blocked },
        link := { s.link with issued := s.link.issued ++ [.frame (syncFrame 1)] } }

/-- QUIESCE in RUNNING: the engine enters QUIESCING, the pending list is emptied, every request context that is not
IDLE is flagged or at its end, and every cadence that is not IDLE is STOPPING or at its end; with nothing in custody,
nothing removed and no lock held, the engine is at once STOPPED and the loop DOWN. In any other state QUIESCE is
ignored (R157, R161, R162; log entry 11). -/
def Obligations.QuiesceStopsWork : Prop :=
  ∀ s : State, s.windowAnswers = true →
    (s.engine.state ≠ .running → exec .quiesce s = .next s) ∧
    (s.engine.state = .running → ∃ t, exec .quiesce s = .next t ∧
      (t.engine = { s.engine with state := .quiescing } ∨
        t.engine = { s.engine with state := .stopped } ∧ t.loop = s.loop.stop) ∧
      t.intake.pendingList = [] ∧
      (∀ i : CtxId, i = ctxA ∨ i = ctxB → (t.ctx i).state = .idle ∨ (t.ctx i).cancel.isSome = true) ∧
      (∀ n, (t.cad n).state = .idle ∨ (t.cad n).state = .stopping) ∧
      t.store.steps = s.store.steps ∧ t.store.load = s.store.load ∧ t.stations = s.stations ∧
      t.attention = s.attention ∧ t.queues.lock = s.queues.lock ∧ t.pins = s.pins ∧ t.pending = s.pending ∧
      ((∀ i, s.slot i = none) → s.intake.taker ≠ .looking → s.notice.removing = false → s.queues.lock = none →
        t.engine.state = .stopped))

/-- A PROMPT naming the request queue: outside RUNNING, or with the taker IDLE, it is lost; a taker LOOKING,
DISPATCHING or BLOCKED sets prompt-seen, which stays set unless the taker begins its look in the same event; an ASLEEP
taker with a free place for its frame begins a removal, whose claim goes out at once when the lock is free and nothing
else is due, and without one is BLOCKED (R124, R140, R141, R142, R168). -/
def Obligations.PromptWakesTaker : Prop :=
  ∀ s : State, s.windowAnswers = true →
    ((s.engine.state ≠ .running ∨ s.intake.taker = .idle) → ∃ t, exec .promptRequest s = .next t ∧ Wakes s t) ∧
    (s.engine.state = .running → s.intake.taker = .looking ∨ s.intake.taker = .dispatching ∨ s.intake.taker = .blocked →
      ∃ t, exec .promptRequest s = .next t ∧ Wakes { s with intake := { s.intake with promptSeen := true } } t ∧
        (s.takerMay = false → t.intake.taker = s.takerNow ∧ t.intake.promptSeen = true)) ∧
    (s.engine.state = .running → s.intake.taker = .asleep → s.anyTaken = false → s.intake.pendingList.length < 16 →
      5 ≤ s.available → s.intakeRests = true → s.mayClaim = true →
      exec .promptRequest s = .next { s with
        intake := { s.intake with taker := .looking, promptSeen := false },
        queues := s.queues.setOp .request (some {
          phase := .claiming s.link.nextAcc, attempt := 1, timer := none, stall := none, stalled := false, frame := 0 }),
        link := { nextAcc := s.link.nextAcc + 1,
                  issued := s.link.issued ++ [.compareSwap s.link.nextAcc (s.headerAddr .request) 0 2] } }) ∧
    (s.engine.state = .running → s.intake.taker = .asleep → s.intakeRests = true →
      s.anyTaken = true ∨ 16 ≤ s.intake.pendingList.length ∨ s.available < 5 →
      exec .promptRequest s = .next { s with intake := { s.intake with taker := .blocked } })

/-- A PROMPT naming the spare queue in RUNNING: a removal in progress keeps prompt-seen, and so does a spares episode
with a notice due and no place free; with a notice due and a place free a removal begins; else it is lost (R115, R119,
R168; that prompt-seen is set when nothing is due only during a removal is log entry 15). -/
def Obligations.PromptBringsSpares : Prop :=
  ∀ s : State, s.windowAnswers = true →
    (s.engine.state ≠ .running → ∃ t, exec .promptSpare s = .next t ∧ Wakes s t) ∧
    (s.engine.state = .running → s.notice.removing = true →
      ∃ t, exec .promptSpare s = .next t ∧ Wakes { s with notice := { s.notice with promptSeen := true } } t) ∧
    (s.engine.state = .running → s.notice.removing = false → s.noticeDue = false →
      ∃ t, exec .promptSpare s = .next t ∧ Wakes s t) ∧
    (s.engine.state = .running → s.notice.removing = false → s.noticeDue = true → s.available = 0 →
      ∃ t, exec .promptSpare s = .next t ∧
        Wakes { s with notice := { s.notice with promptSeen := s.notice.promptSeen || s.notice.episode } } t) ∧
    (s.engine.state = .running → s.notice.removing = false → s.noticeDue = true → 1 ≤ s.available →
      s.takerRests = true → s.posterRests = true → s.deferredQueues = [] → s.mayClaim = true →
      exec .promptSpare s = .next { s with
        notice := { s.notice with removing := true, promptSeen := false },
        queues := s.queues.setOp .spare (some {
          phase := .claiming s.link.nextAcc, attempt := 1, timer := none, stall := none, stalled := false, frame := 0 }),
        link := { nextAcc := s.link.nextAcc + 1,
                  issued := s.link.issued ++ [.compareSwap s.link.nextAcc (s.headerAddr .spare) 0 2] } })

/-! ### The shared queues (chapter 7) -/

/-- A claim's outcome: 0 found, the lock is the part's and the header is read; 1 or 2 found, the attempt has failed
and the part backs off for 2n microseconds, the stall timer running from the first failure; any other value is QUEUE
DAMAGED, and a failed compare-and-swap HOST READ FAULT, each naming the queue (R126, R127, R128; log entry 8). -/
def Obligations.ClaimTakesLockOrBacksOff : Prop :=
  ∀ (s : State) (acc : Nat) (q : Queue) (o : QueueOp), s.live = true → s.awaiting Phase.claim acc = some q →
    s.queues.op q = some o →
    (∃ t u, exec (.lockClaimOutcome acc (some 0)) s = .next t ∧ Wakes u t ∧
      u = { s with
        queues := (s.queues.setOp q (some { o with
          phase := .readingHeader s.link.nextAcc, timer := none, stall := none, stalled := false })).setLock
            (some { queue := q, release := none, fault := none }),
        link := { nextAcc := s.link.nextAcc + 1,
                  issued := s.link.issued ++ [.read s.link.nextAcc (s.headerAddr q + 4) 12] } }) ∧
    (∀ w : Word, w = 1 ∨ w = 2 → ∃ t u, exec (.lockClaimOutcome acc (some w)) s = .next t ∧ Wakes u t ∧
      u = { s with queues := s.queues.setOp q (some { o with
        phase := .backingOff, timer := some (2 * o.attempt),
        stall := if o.stalled = true then none else some (o.stall.getD 1000000) }) }) ∧
    (s.active = true →
      exec (.lockClaimOutcome acc none) s = .next (s.faulted .hostReadFault (queueDetail (some q) 0)) ∧
      ∀ w : Word, 2 < w.toNat →
        exec (.lockClaimOutcome acc (some w)) s = .next (s.faulted .queueDamaged (queueDetail (some q) 0)))

/-- A failed attempt numbered n backs off for 2n microseconds. The backoff's end: before the sixteenth attempt the
next one, numbered one higher, is issued or deferred; after it the contention pause of 100 microseconds begins; the
pause's end begins a new try with attempt 1. An attempt that is due claims the lock at once when no lock is held, no
claim is out and nothing else has to be done (R124, R127). That an expiry acts whenever its timer's phase stands is
log entry 2. -/
def Obligations.BackoffLeadsToNextAttempt : Prop :=
  ∀ (s : State) (q : Queue) (o : QueueOp), s.live = true → s.queues.op q = some o →
    let due := fun (n : Nat) (t : State) =>
      Wakes { s with queues := s.queues.setOp q (some { o with phase := .deferred, attempt := n, timer := none }) } t ∧
      (s.waitsFor q = true → ∃ p, t.queues.op q = some { o with phase := p, attempt := n, timer := none } ∧
        (p = .deferred ∨ p = .claiming s.link.nextAcc))
    let claims := fun (c : Instr) (n : Nat) => exec c s = .next { s with
      queues := s.queues.setOp q (some { o with phase := .claiming s.link.nextAcc, attempt := n, timer := none }),
      link := { nextAcc := s.link.nextAcc + 1,
                issued := s.link.issued ++ [.compareSwap s.link.nextAcc (s.headerAddr q) 0 2] } }
    (∀ acc w, s.awaiting Phase.claim acc = some q → w = 1 ∨ w = 2 →
      ∃ t, exec (.lockClaimOutcome acc (some w)) s = .next t ∧
        Wakes { s with queues := s.queues.setOp q (some { o with
          phase := .backingOff, timer := some (2 * o.attempt),
          stall := if o.stalled = true then none else some (o.stall.getD 1000000) }) } t) ∧
    (o.phase = .backingOff → o.attempt < 16 → ∃ t, exec (.lockBackoffExpiry q) s = .next t ∧ due (o.attempt + 1) t) ∧
    (o.phase = .backingOff → 16 ≤ o.attempt → ∃ t, exec (.lockBackoffExpiry q) s = .next t ∧
      Wakes { s with queues := s.queues.setOp q (some { o with phase := .paused, timer := some 100 }) } t) ∧
    (o.phase = .paused → ∃ t, exec (.contentionPauseExpiry q) s = .next t ∧ due 1 t) ∧
    (s.engine.state = .running → s.intakeRests = true → s.mayClaim = true →
      (o.phase = .backingOff → o.attempt < 16 → claims (.lockBackoffExpiry q) (o.attempt + 1)) ∧
      (o.phase = .paused → claims (.contentionPauseExpiry q) 1)) ∧
    (o.phase ≠ .backingOff → ∃ t, exec (.lockBackoffExpiry q) s = .next t ∧ Wakes s t) ∧
    (o.phase ≠ .paused → ∃ t, exec (.contentionPauseExpiry q) s = .next t ∧ Wakes s t)

/-- The stall timer's end: the operation is stalled, the timer stopped and the STALL cause set, with a message when
the set was empty and messages are enabled, whatever the operation's phase; a timer that does not run changes nothing
(R128, R169, R170; that the expiry acts at any count while the timer runs is log entry 2). -/
def Obligations.StallTimerSetsStall : Prop :=
  ∀ (s : State) (q : Queue) (o : QueueOp), s.live = true → s.queues.op q = some o →
    (o.stall.isSome = true → ∃ t u, exec (.stallTimerExpiry q) s = .next t ∧ Wakes u t ∧
      u = { s with
        engine := { s.engine with causes := s.engine.causes ||| 4 },
        queues := s.queues.setOp q (some { o with stall := none, stalled := true }),
        link := { s.link with issued := s.link.issued ++
          if s.engine.causes = 0 ∧ s.engine.messageEnable = true then [.message] else [] } }) ∧
    (o.stall = none → ∃ t, exec (.stallTimerExpiry q) s = .next t ∧ Wakes s t)

/-- A header read under the lock that passes its checks: a removal from an empty request queue releases the lock and
puts the taker to sleep, or, prompt-seen set, has it look again, in QUIESCING IDLE; one from an empty spare queue
begins a spares episode with the SPARES cause or goes on with one, and looks once more when prompt-seen is set, a
notice is due and a slot free; any other removal reads the head frame's link; an insertion into an empty done queue
writes head, tail and count, releases the lock, frees the slot and sets DONE; any other insertion reads the tail
frame's link (R119, R129, R130, R131, R141, R142, R154; log entry 8). -/
def Obligations.HeaderReadGoesOn : Prop :=
  ∀ (s : State) (acc : Nat) (q : Queue) (o : QueueOp) (head tail count : Word), s.live = true →
    s.awaiting Phase.header acc = some q → s.queues.op q = some o →
    let next : TakerState := if s.engine.state = .running then .blocked else .idle
    let rest : TakerState := if s.engine.state = .running then .asleep else .idle
    let spares : Bool → State := fun again => { s.releaseLock q none with
      notice := { removing := false, promptSeen := again, episode := true },
      engine := { s.engine with causes := if s.notice.episode = true then s.engine.causes else s.engine.causes ||| 8 },
      link := { nextAcc := s.link.nextAcc + 1,
                issued := s.link.issued ++ [.compareSwap s.link.nextAcc (s.headerAddr q) 2 0] ++
                  if s.notice.episode = false ∧ s.engine.causes = 0 ∧ s.engine.messageEnable = true then [.message]
                  else [] } }
    let again := s.notice.promptSeen = true ∧ s.engine.state = .running ∧ s.noticeDue = true ∧
      (if s.intake.taker = .looking then 2 else 1) ≤ s.freeCount
    (o.frame = 0 → q = .request → s.intake.promptSeen = false → ∃ t, exec (.headerReadOutcome acc 0 0 0) s = .next t ∧
      Wakes { s.releaseLock q none with intake := { s.intake with taker := rest } } t ∧
      (s.engine.state = .running → t.intake.taker = .asleep)) ∧
    (o.frame = 0 → q = .request → s.intake.promptSeen = true → ∃ t, exec (.headerReadOutcome acc 0 0 0) s = .next t ∧
      Wakes { s.releaseLock q none with intake := { s.intake with taker := next, promptSeen := false } } t ∧
      t.intake.promptSeen = false ∧
      (s.engine.state = .running → t.intake.taker = .looking ∨ t.intake.taker = .blocked)) ∧
    (o.frame = 0 → q = .spare → ¬ again → ∃ t, exec (.headerReadOutcome acc 0 0 0) s = .next t ∧
      Wakes (spares false) t) ∧
    (o.frame = 0 → q = .spare → again → ∃ t, exec (.headerReadOutcome acc 0 0 0) s = .next t ∧ Wakes (spares true) t ∧
      t.notice = { removing := true, promptSeen := false, episode := true }) ∧
    (o.frame = 0 → head ≠ 0 → tail ≠ 0 → count ≠ 0 → head.toNat ≤ s.engine.config.frameCount.toNat →
      tail.toNat ≤ s.engine.config.frameCount.toNat → count.toNat ≤ s.engine.config.frameCount.toNat →
      ∃ t, exec (.headerReadOutcome acc head tail count) s = .next t ∧
        Wakes { s with
          queues := s.queues.setOp q (some { o with phase := .readingLink s.link.nextAcc head tail count }),
          link := { nextAcc := s.link.nextAcc + 1,
                    issued := s.link.issued ++ [.read s.link.nextAcc (s.frameAddr head.toNat) 4] } } t) ∧
    (∀ i x, o.frame ≠ 0 → q = .done → s.engine.config.frameCount ≠ 0 → s.intake.posting = some i → s.slot i = some x →
      ∃ t u, exec (.headerReadOutcome acc 0 0 0) s = .next t ∧ Wakes u t ∧
        u = { s with
          engine := { s.engine with causes := s.engine.causes ||| 1 },
          intake := { s.intake with posting := none, custody := s.intake.custody.set i none },
          queues := { s.queues with
            done := some { o with phase := .releasing },
            lock := some { queue := .done, release := some s.link.nextAcc, fault := none } },
          link := { nextAcc := s.link.nextAcc + 1,
                    issued := s.link.issued ++
                      [.write (s.headerAddr .done + 4) (le 4 o.frame), .write (s.headerAddr .done + 8) (le 4 o.frame),
                        .write (s.headerAddr .done + 12) (le 4 1),
                        .compareSwap s.link.nextAcc (s.headerAddr .done) 2 0] ++
                      if s.engine.causes = 0 ∧ s.engine.messageEnable = true then [.message] else [] } }) ∧
    (o.frame ≠ 0 → head ≠ 0 → tail ≠ 0 → count ≠ 0 → head.toNat ≤ s.engine.config.frameCount.toNat →
      tail.toNat ≤ s.engine.config.frameCount.toNat → count.toNat < s.engine.config.frameCount.toNat →
      o.frame ≠ head.toNat → o.frame ≠ tail.toNat →
      ∃ t, exec (.headerReadOutcome acc head tail count) s = .next t ∧
        Wakes { s with
          queues := s.queues.setOp q (some { o with phase := .readingLink s.link.nextAcc head tail count }),
          link := { nextAcc := s.link.nextAcc + 1,
                    issued := s.link.issued ++ [.read s.link.nextAcc (s.frameAddr tail.toNat) 4] } } t)

/-- A header or link read that fails a check, or that the Host Link reports as failed: nothing is written to the
header or to a link, the release goes out in the event, and the fault follows its outcome. QUEUE DAMAGED names frame 0
for the header's agreement, count, range and room, the frame to insert for not-already-queued, the first of these
checks that fails deciding, the head frame for a removal's link and the tail frame for an insertion's; HOST READ FAULT
names frame 0 for a header and the frame whose link was read (R132, R133, R134; the order of the checks and the frame
named are log entry 20). The failed read of a TAKEN frame is HOST READ FAULT at once, naming no queue and the frame
(R144). A report nothing waits for changes nothing (log entry 3). -/
def Obligations.DamagedOrFailedReadsRelease : Prop :=
  ∀ (s : State) (acc : Nat) (q : Queue) (o : QueueOp) (head tail count : Word), s.live = true →
    let n := s.engine.config.frameCount.toNat
    let sound := (head = 0 ↔ tail = 0) ∧ (count = 0 ↔ head = 0) ∧ head.toNat ≤ n ∧ tail.toNat ≤ n ∧ count.toNat ≤ n ∧
      (o.frame ≠ 0 → count.toNat ≠ n)
    let read : Nat := if o.frame = 0 then head.toNat else tail.toNat
    let releases := fun (c : Instr) (code : FaultCode) (k : Nat) => ∃ t, exec c s = .next t ∧
      Wakes (s.releaseLock q (some { code, detail := queueDetail (some q) k })) t
    (s.awaiting Phase.header acc = some q → s.queues.op q = some o →
      (¬ sound → releases (.headerReadOutcome acc head tail count) .queueDamaged 0) ∧
      (sound → o.frame ≠ 0 → o.frame = head.toNat ∨ o.frame = tail.toNat →
        releases (.headerReadOutcome acc head tail count) .queueDamaged o.frame)) ∧
    (s.awaiting Phase.header acc = some q → releases (.queueReadFail acc) .hostReadFault 0) ∧
    (s.awaiting Phase.link acc = some q → s.queues.op q = some o → o.phase = .readingLink acc head tail count →
      (∀ link : Word, o.frame ≠ 0 → link ≠ 0 → releases (.linkReadOutcome acc link) .queueDamaged read) ∧
      (∀ link : Word, o.frame = 0 → n < link.toNat ∨ (link = 0 ∧ (tail ≠ head ∨ count ≠ 1)) ∨
          (link ≠ 0 ∧ (tail = head ∨ link = head ∨ count.toNat < 2)) →
        releases (.linkReadOutcome acc link) .queueDamaged read) ∧
      (s.awaiting Phase.header acc = none → releases (.queueReadFail acc) .hostReadFault read)) ∧
    (s.awaiting Phase.header acc = none → s.awaiting Phase.link acc = none →
      ∃ t, exec (.queueReadFail acc) s = .next t ∧ Wakes s t) ∧
    (∀ i x, s.takenBy acc = some i → s.slot i = some x → s.active = true →
      exec (.frameReadFail acc) s = .next (s.faulted .hostReadFault (queueDetail none x.index))) ∧
    (s.takenBy acc = none → ∃ t, exec (.frameReadFail acc) s = .next t ∧ Wakes s t)

/-- A link read of a removal that passes its checks takes the head frame off the queue: the head becomes the link, the
tail 0 when no frame is left, the count one less, and the release follows; the request queue's frame is TAKEN in the
lowest free slot and its 128 bytes are read (R130, R138, R143, R144; log entry 8). -/
def Obligations.RemovalTakesFrame : Prop :=
  ∀ (s : State) (acc : Nat) (o : QueueOp) (head tail count link : Word) (i : Fin 40), s.live = true →
    s.awaiting Phase.link acc = some .request → s.queues.request = some o →
    o.phase = .readingLink acc head tail count → o.frame = 0 → s.inCustody head.toNat = false → s.lowestFree = some i →
    link.toNat ≤ s.engine.config.frameCount.toNat →
    (link = 0 ∧ tail = head ∧ count = 1 ∨ link ≠ 0 ∧ tail ≠ head ∧ link ≠ head ∧ 2 ≤ count.toNat) →
    ∃ t u, exec (.linkReadOutcome acc link) s = .next t ∧ Wakes u t ∧
      u = { s with
        intake := { s.intake with
          taker := .dispatching,
          custody := s.intake.custody.set i (some
            { index := head.toNat, spare := false, state := .taken, record := none, readyNumber := 0,
              readAcc := some (s.link.nextAcc + 1) }) },
        queues := { s.queues with
          request := some { o with phase := .releasing },
          lock := some { queue := .request, release := some s.link.nextAcc, fault := none } },
        link := { nextAcc := s.link.nextAcc + 2,
                  issued := s.link.issued ++
                    [.write (s.headerAddr .request + 4) (le32 link)] ++
                    (if link = 0 then [.write (s.headerAddr .request + 8) (zeros 4)] else []) ++
                    [.write (s.headerAddr .request + 12) (le32 (count - 1)),
                      .compareSwap s.link.nextAcc (s.headerAddr .request) 2 0,
                      .read (s.link.nextAcc + 1) (s.frameAddr head.toNat) 128] } }

/-- A link read that passes its checks, of an insertion and of a removal from the spare queue. An insertion that finds
0 puts the frame behind the tail frame: the tail frame's link and the header's tail become the frame, the count one
more, and the release follows; the slot is freed and no cause is set (R131, R154). A removed spare frame enters the
lowest free slot READY, ends the spares episode, and carries the ring notice of the lowest-numbered owing cadence,
whose notice owed clears, else the oldest WAITING attention entry, which leaves the set, else an empty notice (R100,
R116, R117, R118, R130, R143; that no ring notice is carried in QUIESCING is log entry 39, the cut into writes log
entry 21). A frame already in custody, of either removal, is QUEUE DAMAGED naming it, behind the removal's writes and
its release (R143). -/
def Obligations.GoodLinkInsertsOrFillsNotice : Prop :=
  ∀ (s : State) (acc : Nat) (o : QueueOp) (head tail count link : Word), s.live = true →
    let removed : Queue → State := fun q => { s with
      queues := (s.queues.setOp q (some { o with phase := .releasing })).setLock
        (some { queue := q, release := some s.link.nextAcc, fault := none }),
      link := { nextAcc := s.link.nextAcc + 1,
                issued := s.link.issued ++
                  [.write (s.headerAddr q + 4) (le32 link)] ++
                  (if link = 0 then [.write (s.headerAddr q + 8) (zeros 4)] else []) ++
                  [.write (s.headerAddr q + 12) (le32 (count - 1)),
                    .compareSwap s.link.nextAcc (s.headerAddr q) 2 0] } }
    let good := fun q : Queue => s.awaiting Phase.link acc = some q ∧ s.queues.op q = some o ∧
      o.phase = .readingLink acc head tail count ∧ o.frame = 0 ∧ link.toNat ≤ s.engine.config.frameCount.toNat ∧
      (link = 0 ∧ tail = head ∧ count = 1 ∨ link ≠ 0 ∧ tail ≠ head ∧ link ≠ head ∧ 2 ≤ count.toNat)
    (∀ i x, s.awaiting Phase.link acc = some .done → s.queues.done = some o →
      o.phase = .readingLink acc head tail count → o.frame ≠ 0 → s.intake.posting = some i → s.slot i = some x →
      ∃ t u, exec (.linkReadOutcome acc 0) s = .next t ∧ Wakes u t ∧
        u = { s with
          intake := { s.intake with posting := none, custody := s.intake.custody.set i none },
          queues := { s.queues with
            done := some { o with phase := .releasing },
            lock := some { queue := .done, release := some s.link.nextAcc, fault := none } },
          link := { nextAcc := s.link.nextAcc + 1,
                    issued := s.link.issued ++
                      [.write (s.frameAddr tail.toNat) (le 4 o.frame), .write (s.headerAddr .done + 8) (le 4 o.frame),
                        .write (s.headerAddr .done + 12) (le32 (count + 1)),
                        .compareSwap s.link.nextAcc (s.headerAddr .done) 2 0] } }) ∧
    (∀ q, q = .request ∨ q = .spare → good q → s.inCustody head.toNat = true → s.active = true →
      exec (.linkReadOutcome acc link) s = .next
        ((removed q).faulted .queueDamaged (queueDetail (some q) head.toNat))) ∧
    ∀ i, good .spare → s.inCustody head.toNat = false → s.lowestFree = some i →
      let carries := fun (kind result station : Nat) (countA countB : Word) (bytes : List Byte) (v : State) =>
        let a := s.frameAddr head.toNat
        ∃ t u, exec (.linkReadOutcome acc link) s = .next t ∧ Wakes u t ∧
          u = { (removed .spare) with
            notice := { removing := false, promptSeen := false, episode := false },
            intake := { s.intake with
              readyCounter := s.intake.readyCounter + 1,
              custody := s.intake.custody.set i (some
                { index := head.toNat, spare := true, state := .ready, record := none,
                  readyNumber := s.intake.readyCounter, readAcc := none }) },
            cadences := v.cadences, attention := v.attention,
            link := { nextAcc := s.link.nextAcc + 1, issued := (removed .spare).link.issued ++
              [.write (a + 0x04) (le 1 kind ++ le 1 result ++ le 1 0 ++ le 1 station),
                .write (a + 0x10) (le32 countA ++ le32 countB ++ le 2 0), .write (a + 0x20) bytes] } }
      let noRing := s.engine.state = .quiescing ∨ ∀ n, (s.cad n).owed = false
      (∀ n, s.engine.state ≠ .quiescing → (s.cad n).owed = true → (∀ m, m < n → (s.cad m).owed = false) →
        let c := s.cad n
        carries 33 0 0 c.p c.c
          (le 1 n.val ++ zeros 3 ++ le32 (c.nextBoundary - c.interval) ++ le32 c.runSequence ++ le32 c.overlapMisses ++
            le32 c.spaceMisses ++ le32 s.engine.timeBase ++ zeros 72)
          { s with cadences := s.cadences.set n { c with owed := false } }) ∧
      (∀ (older newer : List Attention) (e : Attention), noRing → s.attention = older ++ e :: newer → e.held = false →
        (∀ x ∈ older, x.held = true) → (∀ x ∈ older ++ newer, x.station ≠ e.station) →
        carries 32 0 e.station.toNat e.firstCode e.lastCode
          (le 1 e.repeats.toNat ++ le 1 ((older ++ newer).filter fun x : Attention => !x.held).length ++
            le 1 ((older ++ newer).filter fun x : Attention => x.held).length ++ zeros 1 ++ le32 e.arrival ++
            le32 s.engine.timeBase ++ zeros 84)
          { s with attention := older ++ newer }) ∧
      (noRing → (∀ e ∈ s.attention, e.held = true) → carries 32 13 0 0 0 (zeros 96) s)

/-! ### The probes of a SURVEY (chapter 4) -/

/-- The outcome of a SURVEY's probe, for address a: a REPLY makes the station PRESENT with the reply's data as its
ident word, or 0 for ack 0; the probe back unanswered makes it ABSENT with ident 0; a bad check sends the probe again
while it has retries, and with none left counts the station unresolved, with CHECK FAIL the first failure. The walk
then probes the next address, unless that is BYPASSED, and behind address 40 completes the SURVEY: DONE, its 40
records written first, then its counts (R75, R76, R77; log entry 21). An abandoned probe, here by line loss, completes
it STEP FAILED with LOOP LOST (R60, R76). The transmitter is busy, or no context else is eligible. The receiver's
place behind a frame and after line loss is log entry 26. -/
def Obligations.ProbeDecidesStation : Prop :=
  ∀ (s : State) (r : InFlight) (i : CtxId) (z : Slot) (p : Fin 40), s.live = true →
    s.loop.state = .opened → s.loop.window = [r] → r.owner = .context i → s.released = [] →
    s.intake.pendingList = [] → s.loop.transmitting.isSome = true ∨ s.loop.sendDue = false ∧ (∀ j, (s.ctx j).eligible = false) →
    (s.ctx i).job = .survey → (s.ctx i).cancel = none → (s.ctx i).element = p.val + 1 →
    s.slot (s.ctx i).owner = some z →
    let c := s.ctx i
    let k := c.counts
    let heard : LoopPort := { s.loop with window := [], lineLoss := false, receiver := .between false }
    let replied : LoopPort := { heard with
      stats := { s.loop.stats with repliesAccepted := satInc s.loop.stats.repliesAccepted } }
    let damaged : LoopPort := { heard with stats := { s.loop.stats with checkFailures := satInc s.loop.stats.checkFailures } }
    let completes := fun (e : Instr) (x : Station) (l : LoopPort) (n : SurveyCounts) (result error station : Nat) =>
      ∃ t c' records, exec e s = .next t ∧ c'.state = .idle ∧ records.length = 320 ∧
        (∀ m : Fin 40, (records.drop (8 * m.val)).take 8 =
          let v := if m = p then x else s.stations[m]
          le 1 v.state.code ++ zeros 3 ++ le32 v.ident) ∧
        Wakes { (s.issueAll [.write (u64 (s.bodyOf c.owner) 0x00) records]).finished c.owner z
            { result, stepError := error, station, countA := BitVec.ofNat 32 n.probed,
              countB := BitVec.ofNat 32 n.present } 0x10 (le 4 n.absent ++ le 4 n.skipped ++ le 4 n.unresolved) with
          stations := s.stations.set p x, loop := l, contexts := s.contexts.set i c' } t
    let decides := fun (e : Instr) (x : Station) (l : LoopPort) (n : SurveyCounts) (f : Option Failing) =>
      (∀ q : Fin 40, q.val = p.val + 1 → s.stations[q].state ≠ .bypassed → ∃ t, exec e s = .next t ∧
        Wakes ({ s with
          stations := s.stations.set p x, loop := l,
          contexts := s.contexts.set i { c with
            state := .issuing, element := q.val + 1, remaining := 1, counts := n, failing := f,
            elem := { station := BitVec.ofNat 6 (q.val + 1), access := .control (.inline 0) false, register := 63,
                      width := .w32, readiness := .accept, goOn := false },
            retries := s.engine.config.retryLimit, readyWait := 0, readyOn := false, attempts := 0, held := none,
            timer := none } }.offered i) t) ∧
      (p.val = 39 → completes e x l n 0 ((f.map fun y => y.error.code).getD 0) ((f.map fun y => y.station.toNat).getD 0))
    (∀ ack ready data,
      decides (.replyArrival r.sequence r.frame.station ack ready data)
        { s.stations[p] with state := .present, ident := if ack = true then data else 0 } replied
        { k with probed := k.probed + 1, present := k.present + 1 } c.failing) ∧
    (r.frame.type = 1 →
      decides (.frameReturned r.frame) { s.stations[p] with state := .absent, ident := 0 } heard
        { k with probed := k.probed + 1, absent := k.absent + 1 } c.failing) ∧
    (c.retries = 0 →
      decides .badCheckFrame s.stations[p] damaged { k with probed := k.probed + 1, unresolved := k.unresolved + 1 }
        (some (c.failing.getD { step := 0, error := .checkFail, station := c.elem.station }))) ∧
    (0 < c.retries → s.loop.transmitting.isSome = true ∨ (s.station c.elem.station.toNat).state ≠ .bypassed →
      ∃ t, exec .badCheckFrame s = .next t ∧
        Wakes ({ s with loop := damaged,
                        contexts := s.contexts.set i { c with retries := c.retries - 1, state := .issuing } }.offered i) t) ∧
    (s.loop.lineLoss = false →
      completes .lineLoss s.stations[p]
        { s.loop with
          state := .quiet, window := [], lineLoss := true, receiver := .lost 0 0,
          quietTimer := some (2 * s.engine.config.replyTimeout), afterQuiet := .syncing,
          stats := { s.loop.stats with recoveries := satInc s.loop.stats.recoveries } } k 14 3 c.elem.station.toNat)

/-- What issuing a release is: the compare-and-swap that expects 2 and writes 0 goes out under the next access number,
the lock waits for its outcome, and the operation is RELEASING (R129). The release's outcome: 2 found, the lock is
free, and a fault that was to follow is raised; another value, or a failed compare-and-swap, is LOCK RELEASE FAULT
naming the queue (R129, R133, R134). -/
def Obligations.ReleaseFreesLock : Prop :=
  ∀ (s : State) (acc : Nat) (q : Queue),
    (∀ f, s.releaseLock q f = { s with
      queues := (s.queues.setOp q ((s.queues.op q).map fun o : QueueOp => { o with phase := .releasing })).setLock
        (some { queue := q, release := some s.link.nextAcc, fault := f }),
      link := { nextAcc := s.link.nextAcc + 1,
                issued := s.link.issued ++ [.compareSwap s.link.nextAcc (s.headerAddr q) 2 0] } }) ∧
    (s.live = true →
      (s.queues.lock = some { queue := q, release := some acc, fault := none } → ∃ t,
        exec (.lockReleaseOutcome acc (some 2)) s = .next t ∧
          Wakes { s with queues := (s.queues.setOp q
            ((s.queues.op q).filter fun o : QueueOp => o.phase != Phase.releasing)).setLock none } t) ∧
      (∀ f, s.queues.lock = some { queue := q, release := some acc, fault := some f } → s.active = true →
        exec (.lockReleaseOutcome acc (some 2)) s = .next
          ({ s with queues := (s.queues.setOp q
            ((s.queues.op q).filter fun o : QueueOp => o.phase != Phase.releasing)).setLock none }.faulted f.code f.detail)) ∧
      (∀ f found, s.queues.lock = some { queue := q, release := some acc, fault := f } → s.active = true →
        found ≠ some 2 →
        exec (.lockReleaseOutcome acc found) s = .next
          (s.faulted .lockReleaseFault (queueDetail (some q) 0))))

/-! ### Requests (chapters 1 to 8 and 10) -/

/-- A request whose kind is none of the twelve completes BAD KIND, and a request of a kind completes BAD FIELD when a
field of its body is out of its range, not aligned, or a must-be-zero field is not zero, field by field as the kind's
rule has them: the record in its frame, the slot READY, and nothing else changed (R6, R37, R65, R74, R79, R89, R101,
R104, R112, R145, R150, R172, section 11.4; log entry 21). -/
def Obligations.MalformedRequestsAreRefused : Prop :=
  ∀ (s : State) (acc : Nat) (tag : BitVec 64) (b : Body) (i : Fin 40) (x : Slot), s.live = true →
    s.takenBy acc = some i → s.slot i = some x → s.calm = true →
    let refused := fun (c : Instr) (kind : Byte) => ∃ t, exec c s = .next t ∧
      Wakes (s.finished i (x.kept kind tag b) { result := 2 }) t
    let zero := fun offset n : Nat => zeroAt b offset n = true
    let sets := (∀ a, ¬ ((u64 b 0x00).getLsbD a = true ∧ (u64 b 0x08).getLsbD a = true)) ∧
      ∀ a, a = 0 ∨ 40 < a → (u64 b 0x00).getLsbD a = false ∧ (u64 b 0x08).getLsbD a = false
    let buffered := u8 b 0x0C = 1 ∨ u8 b 0x0C = 3
    (∀ kind : Byte, kind.toNat < 1 ∨ 12 < kind.toNat → ∃ t, exec (.badKind acc kind tag b) s = .next t ∧
      Wakes (s.finished i (x.kept kind tag b) { result := 1 }) t) ∧
    (¬ ((u16 b 0x08).toNat ≤ 2047 ∧ 1 ≤ (u16 b 0x0A).toNat ∧ (u16 b 0x0A).toNat ≤ 2048 ∧
        (u16 b 0x08).toNat + (u16 b 0x0A).toNat ≤ 2048 ∧ zero 0x0C 84) → refused (.loadProgram acc tag b) 1) ∧
    (¬ ((u16 b 0x18).toNat ≤ 2047 ∧ (u64 b 0x00).toNat % 16 = 0 ∧ (u64 b 0x08).toNat % 4 = 0 ∧
        (u32 b 0x10 = 0 → u64 b 0x00 = 0) ∧ (u32 b 0x14 = 0 → u64 b 0x08 = 0) ∧ zero 0x1A 2 ∧ zero 0x20 64) →
      refused (.run acc tag b) 2) ∧
    (¬ ((u8 b 0x1A).toNat ≤ 7 ∧ (u16 b 0x18).toNat ≤ 2047 ∧ 1 ≤ (u32 b 0x08).toNat ∧ (u32 b 0x08).toNat ≤ 2000000 ∧
        (u32 b 0x0C).toNat < (u32 b 0x08).toNat ∧ (∃ k, k ≤ 16 ∧ (u32 b 0x10).toNat = 16 * 2 ^ k) ∧
        (u64 b 0x00).toNat % 16 = 0 ∧ 1 ≤ (u32 b 0x14).toNat ∧ 2 * (u32 b 0x14).toNat ≤ (u32 b 0x10).toNat ∧
        zero 0x1C 68) → refused (.startCadence acc tag b) 4) ∧
    (¬ ((u8 b 0x00).toNat ≤ 7 ∧ zero 0x01 95) → refused (.stopCadence acc tag b) 5) ∧
    (¬ ((u8 b 0x00).toNat ≤ 7 ∧ zero 0x01 3 ∧ zero 0x08 88) → refused (.release acc tag b) 6) ∧
    (¬ ((u64 b 0x00).toNat % 8 = 0 ∧ zero 0x0C 84) → refused (.survey acc tag b) 7) ∧
    (¬ (sets ∧ (u64 b 0x00 ≠ 0 ∨ u64 b 0x08 ≠ 0) ∧ zero 0x10 80) → refused (.reconfigure acc tag b) 8) ∧
    (¬ (sets ∧ (u8 b 0x10).toNat ≤ 1 ∧ zero 0x11 79) → refused (.setAttention acc tag b) 9) ∧
    (¬ zero 0x00 96 → refused (.loopRestart acc tag b) 10) ∧
    (∀ c : Instr, c ∈ [.queryStations acc tag b, .queryLoop acc tag b, .queryCadences acc tag b, .queryHolds acc tag b] →
      ¬ (1 ≤ (u8 b 0x0C).toNat ∧ (u8 b 0x0C).toNat ≤ 4 ∧ (u8 b 0x0D).toNat ≤ 1 ∧ (u8 b 0x0D = 1 → u8 b 0x0C = 2) ∧
        (buffered → (u64 b 0x00).toNat % 8 = 0) ∧ (¬ buffered → u64 b 0x00 = 0 ∧ u32 b 0x08 = 0) ∧ zero 0x0E 82) →
      refused c 11) ∧
    (¬ zero 0x08 88 → refused (.cancel acc tag b) 12)

/-- A LOAD PROGRAM: BAD FIELD when its range leaves the store or a must-be-zero field is not zero; BAD ADDRESS when
its source lies in no permitted window; IN USE, with the lowest held step of the range, when the range meets a hold;
otherwise the load is in progress and its source is read (R6, R7, R12; one read for the whole source is log entry 7;
log entry 21). -/
def Obligations.LoadIsDecidedByWindowAndHolds : Prop :=
  ∀ (s : State) (acc : Nat) (tag : BitVec 64) (b : Body) (i : Fin 40) (x : Slot), s.live = true →
    s.takenBy acc = some i → s.slot i = some x →
    let source := u64 b 0x00
    let dest := (u16 b 0x08).toNat
    let count := (u16 b 0x0A).toNat
    let y := x.kept 1 tag b
    let bad := 2047 < dest ∨ count = 0 ∨ 2048 < count ∨ 2048 < dest + count ∨ zeroAt b 0x0C 84 = false
    (bad → ∃ t, exec (.loadProgram acc tag b) s = .next t ∧ Wakes (s.finished i y { result := 2 }) t) ∧
    (¬ bad → s.inWindow false source (16 * count) = false → ∃ t, exec (.loadProgram acc tag b) s = .next t ∧
      Wakes (s.finished i y { result := 3 }) t) ∧
    (∀ k, ¬ bad → s.inWindow false source (16 * count) = true → dest ≤ k → k < dest + count → s.store.heldAt k = true →
      (∀ j, dest ≤ j → j < k → s.store.heldAt j = false) → ∃ t, exec (.loadProgram acc tag b) s = .next t ∧
        Wakes (s.finished i y { result := 8, stepIndex := k }) t) ∧
    (¬ bad → s.inWindow false source (16 * count) = true → (∀ j, dest ≤ j → j < dest + count → s.store.heldAt j = false) →
      ∃ t u, exec (.loadProgram acc tag b) s = .next t ∧ Wakes u t ∧
        u = { s with
          store := { s.store with load := some { slot := i, dest, count, written := 0, acc := s.link.nextAcc } },
          intake := { s.intake with custody := s.intake.custody.set i (some y) },
          link := { nextAcc := s.link.nextAcc + 1,
                    issued := s.link.issued ++ [.read s.link.nextAcc source (16 * count)] } })

/-- The source of a load: a step that passes the step test is written into the next location, and the last one ends
the load DONE; a step that fails it ends the load BAD STEP and a failed read SOURCE FAULT, at the first step not
written; the flag clears and the slot is READY in the event (R7, R8; log entries 7, 21). A report no load waits for
changes nothing. -/
def Obligations.LoadWritesStepsInOrder : Prop :=
  ∀ (s : State) (acc : Nat) (image : StepImage), s.live = true →
    (s.loading acc = none →
      exec (.loadSourceArrival acc image) s = .next s ∧ exec (.loadSourceReadFail acc) s = .next s) ∧
    ∀ (l : Load) (x : Slot), s.loading acc = some l → s.slot l.slot = some x →
      (∀ st, Step.ofImage image = some st → l.written + 1 < l.count →
        exec (.loadSourceArrival acc image) s = .next { s with
          store := { s.store with steps := writeStep s.store.steps (l.dest + l.written) st,
                                  load := some { l with written := l.written + 1 } } }) ∧
      (s.calm = true → (s.ctx ctxA).state ≠ .checking → (s.ctx ctxB).state ≠ .checking →
        (∀ st, Step.ofImage image = some st → l.count ≤ l.written + 1 →
          ∃ t, exec (.loadSourceArrival acc image) s = .next t ∧
            Wakes ({ s with store := { s.store with steps := writeStep s.store.steps (l.dest + l.written) st,
                                                    load := none } }.finished l.slot x
              { result := 0, stepIndex := l.dest, countA := BitVec.ofNat 32 l.count }) t) ∧
        (Step.ofImage image = none → ∃ t, exec (.loadSourceArrival acc image) s = .next t ∧
          Wakes ({ s with store := { s.store with load := none } }.finished l.slot x
            { result := 7, stepIndex := l.dest + l.written, countA := BitVec.ofNat 32 l.written }) t) ∧
        ∃ t, exec (.loadSourceReadFail acc) s = .next t ∧
          Wakes ({ s with store := { s.store with load := none } }.finished l.slot x
            { result := 19, stepIndex := l.dest + l.written, countA := BitVec.ofNat 32 l.written }) t)

/-- A context-kind request that passes its checks with both request contexts at work is kept at the tail of the pending
list, its slot PENDING; with the engine QUIESCING it completes QUIESCED (R146, R147, R148; log entry 21). -/
def Obligations.RequestsWaitOnPendingList : Prop :=
  ∀ (s : State) (acc : Nat) (tag : BitVec 64) (b : Body) (i : Fin 40) (x : Slot), s.live = true →
    s.takenBy acc = some i → s.slot i = some x → s.calm = true →
    ∀ (c : Instr) (kind : Byte) (ok : Bool),
      (c, kind, ok) ∈ [(Instr.run acc tag b, (2 : Byte), runFieldsOk b && s.runWindowsOk b),
        (.exchange acc tag b, 3, exchangeStepOk b && zeroAt b 0x10 80),
        (.survey acc tag b, 7, surveyFieldsOk b && s.inWindow true (u64 b 0x00) (u32 b 0x08).toNat &&
          decide (320 ≤ (u32 b 0x08).toNat))] → ok = true →
      (s.engine.state ≠ .quiescing → (s.ctx ctxA).state ≠ .idle → (s.ctx ctxB).state ≠ .idle →
        ∃ t u, exec c s = .next t ∧ Wakes u t ∧
          u = { s with intake := { s.intake with
            custody := s.intake.custody.set i (some { x.kept kind tag b with state := .pending }),
            pendingList := s.intake.pendingList ++ [i] } }) ∧
      (s.engine.state = .quiescing → ∃ t, exec c s = .next t ∧
        Wakes (s.finished i (x.kept kind tag b) { result := 17 }) t)

/-- A RUN starts in request context A when A is IDLE: its prepass walks the store; VACANT STEP, NO END and SHORT
BUFFER complete it with no hold placed; else the hold is placed, the buffers and bounds are set, and its first step
begins, here an EXCHANGE step that takes no input word, which is granted at once or waits in ISSUING (R13, R14, R15,
R19, R21, R23, R24, R37, R38, R50; log entry 21). -/
def Obligations.RunStartsInContextA : Prop :=
  ∀ (s : State) (acc : Nat) (tag : BitVec 64) (b : Body) (i : Fin 40) (x : Slot), s.live = true →
    s.takenBy acc = some i → s.slot i = some x → s.calm = true → s.engine.state ≠ .quiescing →
    runFieldsOk b = true → s.runWindowsOk b = true → (s.ctx ctxA).state = .idle → s.store.load = none →
    let start := (u16 b 0x18).toNat
    let y := x.kept 2 tag b
    (∀ k, prepass s.store start = .vacant k → ∃ t c, exec (.run acc tag b) s = .next t ∧ c.state = .idle ∧
      Wakes { s.finished i y { result := 6, stepIndex := k } 0x20 (zeros 16) with contexts := s.contexts.set 8 c } t) ∧
    (∀ k, prepass s.store start = .noEnd k → ∃ t c, exec (.run acc tag b) s = .next t ∧ c.state = .idle ∧
      Wakes { s.finished i y { result := 5, stepIndex := k } 0x20 (zeros 16) with contexts := s.contexts.set 8 c } t) ∧
    (∀ last l w, prepass s.store start = .complete last l w → (u32 b 0x10).toNat < l ∨ (u32 b 0x14).toNat < w →
      ∃ t c, exec (.run acc tag b) s = .next t ∧ c.state = .idle ∧
        Wakes { s.finished i y
          { result := 4, stepIndex := start, countA := BitVec.ofNat 32 l, countB := BitVec.ofNat 32 w } 0x20
          (zeros 8 ++ le 4 l ++ le 4 w) with contexts := s.contexts.set 8 c } t) ∧
    (∀ last l w e, prepass s.store start = .complete last l w → l ≤ (u32 b 0x10).toNat → w ≤ (u32 b 0x14).toNat →
      fetchStep s.store.steps start = some (.exchange e) → e.access.isInput = false → s.loop.state ≠ .down →
      (s.canGrant = true → (s.station e.station.toNat).state ≠ .bypassed) →
      ∃ t u, exec (.run acc tag b) s = .next t ∧ Wakes (u.offered ctxA) t ∧
        u = { s with
          store := { s.store with holds := s.store.holds.set 8 (some { first := start, last }) },
          intake := { s.intake with custody := s.intake.custody.set i (some { y with state := .running }) },
          contexts := s.contexts.set 8 { Context.zero with
            state := .issuing, job := .run, owner := i, runSequence := u32 b 0x1C, step := start,
            outCursor := u64 b 0x00, outLimit := u64 b 0x00 + BitVec.ofNat 64 (16 * (u32 b 0x10).toNat),
            inCursor := u64 b 0x08, inLimit := u64 b 0x08 + BitVec.ofNat 64 (4 * (u32 b 0x14).toNat),
            lmax := l, wmax := w, elem := e, remaining := 1, element := 0,
            retries := s.engine.config.retryLimit } })

/-- An EXCHANGE: a step that fails the step test, is not of kind EXCHANGE or takes input data is BAD STEP, with the
station as written; a body not zero outside a good step is BAD FIELD; with both defects it is one of the two (R40; log
entry 6). One that passes starts in context A when A is IDLE: its element is granted or waits in ISSUING, or with the
loop DOWN completes STEP FAILED with LOOP DOWN (R19, R23, R40, R41, R44; log entry 21). -/
def Obligations.ExchangeStartsInContextA : Prop :=
  ∀ (s : State) (acc : Nat) (tag : BitVec 64) (b : Body) (i : Fin 40) (x : Slot), s.live = true →
    s.takenBy acc = some i → s.slot i = some x → s.calm = true →
    let y := x.kept 3 tag b
    let refused := fun r : Nat => s.finished i y { result := r, station := (u8 b 0x01).toNat }
    (exchangeStepOk b = false → zeroAt b 0x10 80 = true → ∃ t, exec (.exchange acc tag b) s = .next t ∧
      Wakes (refused 7) t) ∧
    (exchangeStepOk b = true → zeroAt b 0x10 80 = false → ∃ t, exec (.exchange acc tag b) s = .next t ∧
      Wakes (refused 2) t) ∧
    (exchangeStepOk b = false → zeroAt b 0x10 80 = false → ∃ t, exec (.exchange acc tag b) s = .next t ∧
      (Wakes (refused 7) t ∨ Wakes (refused 2) t)) ∧
    (∀ e, Step.ofImage (b.extractLsb' 0 128) = some (.exchange e) → e.access.isInput = false → zeroAt b 0x10 80 = true →
      s.engine.state ≠ .quiescing → (s.ctx ctxA).state = .idle →
      (s.loop.state ≠ .down → (s.canGrant = true → (s.station e.station.toNat).state ≠ .bypassed) →
        ∃ t u, exec (.exchange acc tag b) s = .next t ∧ Wakes (u.offered ctxA) t ∧
        u = { s with
          intake := { s.intake with custody := s.intake.custody.set i (some { y with state := .running }) },
          contexts := s.contexts.set 8 { Context.zero with
            state := .issuing, job := .exchange, owner := i, elem := e, remaining := 1,
            retries := s.engine.config.retryLimit } }) ∧
      (s.loop.state = .down → ∃ t c, exec (.exchange acc tag b) s = .next t ∧ c.state = .idle ∧
        Wakes { s.finished i y { result := 14, stepError := 7, station := e.station.toNat } 0x10
          (zeros 8 ++ le 1 4) with contexts := s.contexts.set 8 c } t))

/-- A SURVEY: BAD ADDRESS outside the permitted windows, SHORT BUFFER under 320 bytes; otherwise it starts in context
A when A is IDLE, waits in CHECKING while a loop operation is in progress, and else probes address 1, unless that is
BYPASSED, with a CONTROL exchange to register select 63 of width 32 and data 0, granted at once or waiting (R19, R24,
R50, R74, R75; log entry 21). -/
def Obligations.SurveyStartsInContextA : Prop :=
  ∀ (s : State) (acc : Nat) (tag : BitVec 64) (b : Body) (i : Fin 40) (x : Slot), s.live = true →
    s.takenBy acc = some i → s.slot i = some x → s.calm = true → surveyFieldsOk b = true →
    let y := x.kept 7 tag b
    let inside := s.inWindow true (u64 b 0x00) (u32 b 0x08).toNat
    (inside = false → ∃ t, exec (.survey acc tag b) s = .next t ∧ Wakes (s.finished i y { result := 3 }) t) ∧
    (inside = true → (u32 b 0x08).toNat < 320 → ∃ t, exec (.survey acc tag b) s = .next t ∧
      Wakes (s.finished i y { result := 4 }) t) ∧
    (inside = true → 320 ≤ (u32 b 0x08).toNat → s.engine.state ≠ .quiescing → (s.ctx ctxA).state = .idle →
      (s.loop.op.isSome = true → ∃ t u, exec (.survey acc tag b) s = .next t ∧ Wakes u t ∧
        u = { s with
          intake := { s.intake with custody := s.intake.custody.set i (some { y with state := .running }) },
          contexts := s.contexts.set 8 { Context.zero with state := .checking, job := .survey, owner := i } }) ∧
      (s.loop.op = none → s.loop.state ≠ .down → (s.station 1).state ≠ .bypassed →
        ∃ t u, exec (.survey acc tag b) s = .next t ∧ Wakes (u.offered ctxA) t ∧
          u = { s with
            intake := { s.intake with custody := s.intake.custody.set i (some { y with state := .running }) },
            contexts := s.contexts.set 8 { Context.zero with
              state := .issuing, job := .survey, owner := i, element := 1, remaining := 1,
              retries := s.engine.config.retryLimit,
              elem := { station := 1, access := .control (.inline 0) false, register := 63, width := .w32,
                        readiness := .accept, goOn := false } } }))

/-- A START CADENCE whose fields and window pass, for an IDLE cadence: VACANT STEP, NO END, SHORT BUFFER (the program
takes input), BAD FIELD (the notice interval is too short for a run) and QUIESCED refuse it in this order; else its
hold is placed, its record set up, its slot CADENCE and its trigger timer started, here with a phase that is not 0. A
cadence that is not IDLE is IN USE, and a ring outside the windows BAD ADDRESS (R15, R89, R90, R91, R92; log entry
21). -/
def Obligations.StartCadenceSetsUpRecord : Prop :=
  ∀ (s : State) (acc : Nat) (tag : BitVec 64) (b : Body) (i : Fin 40) (x : Slot) (n : Fin 8), s.live = true →
    s.takenBy acc = some i → s.slot i = some x → s.calm = true → startFieldsOk b = true → (u8 b 0x1A).toNat = n.val →
    let start := (u16 b 0x18).toNat
    let inside := s.inWindow true (u64 b 0x00) (16 * (u32 b 0x10).toNat)
    let ends := fun d : DoneRecord => ∃ t, exec (.startCadence acc tag b) s = .next t ∧
      Wakes (s.finished i (x.kept 4 tag b) d) t
    let counted := fun (r l w : Nat) => ends
      { result := r, stepIndex := start, countA := BitVec.ofNat 32 (l + 1), countB := BitVec.ofNat 32 w }
    (inside = false → ends { result := 3 }) ∧
    (inside = true → (s.cad n).state ≠ .idle → ends { result := 8 }) ∧
    (inside = true → (s.cad n).state = .idle →
      (∀ k, prepass s.store start = .vacant k → ends { result := 6, stepIndex := k }) ∧
      (∀ k, prepass s.store start = .noEnd k → ends { result := 5, stepIndex := k }) ∧
      ∀ last l w, prepass s.store start = .complete last l w →
        (w ≠ 0 → counted 4 l w) ∧
        (w = 0 → (u32 b 0x14).toNat < l + 1 → counted 2 l w) ∧
        (w = 0 → l + 1 ≤ (u32 b 0x14).toNat → s.engine.state = .quiescing → counted 17 l w) ∧
        (w = 0 → l + 1 ≤ (u32 b 0x14).toNat → s.engine.state ≠ .quiescing → u32 b 0x0C ≠ 0 →
          ∃ t u, exec (.startCadence acc tag b) s = .next t ∧ Wakes u t ∧
            u = { s with
              store := { s.store with holds := s.store.holds.set n.val (some { first := start, last }) },
              intake := { s.intake with
                custody := s.intake.custody.set i (some { x.kept 4 tag b with state := .cadence }) },
              cadences := s.cadences.set n
                { state := .waiting, programStart := u16 b 0x18, lmax := BitVec.ofNat 32 (l + 1), period := u32 b 0x08,
                  phase := u32 b 0x0C, ringBase := u64 b 0x00, ringSize := u32 b 0x10, interval := u32 b 0x14,
                  missLimit := u8 b 0x1B, p := 0, c := 0, nextBoundary := u32 b 0x14, outstanding := false, owed := false,
                  consecutive := 0, overlapMisses := 0, spaceMisses := 0, runsStarted := 0, runsFailed := 0,
                  runSequence := 0, reason := .none, startSlot := i,
                  trigger := some ((u32 b 0x0C).toNat * 50), downNotice := false } }))

/-- A STOP CADENCE: NO CADENCE for an IDLE cadence; a WAITING one goes to IDLE with reason REQUESTED, its hold removed
and its START frame completed STOPPED; a RUNNING one whose context awaits a reply goes to STOPPING and its context is
flagged; a STOPPING one is left as it is. The STOP's own record, behind the START's, holds P and runs started (R103,
R104, R105; log entry 21). -/
def Obligations.StopCadenceByState : Prop :=
  ∀ (s : State) (acc : Nat) (tag : BitVec 64) (b : Body) (i : Fin 40) (x : Slot) (n : Fin 8), s.live = true →
    s.takenBy acc = some i → s.slot i = some x → stopFieldsOk b = true → (u8 b 0x00).toNat = n.val →
    let c := s.cad n
    let y := x.kept 5 tag b
    let own : DoneRecord := { result := 0, countA := c.p, countB := c.runsStarted }
    (c.state = .idle → ∃ t, exec (.stopCadence acc tag b) s = .next t ∧ Wakes (s.finished i y { result := 10 }) t) ∧
    (∀ j z, c.state = .waiting → c.startSlot = j → j ≠ i → s.slot j = some z →
      ∃ t u, exec (.stopCadence acc tag b) s = .next t ∧ Wakes u t ∧
        u = { (s.finished j z
            { result := 16, stepError := 1, stepIndex := c.programStart.toNat, countA := c.p, countB := c.runsStarted }
            0x20 (le32 c.c ++ le32 c.overlapMisses ++ le32 c.spaceMisses ++ le32 c.runsFailed ++
              le32 c.runSequence ++ le32 c.lmax)).finished i y own with
          cadences := s.cadences.set n { c with state := .idle, reason := .requested, trigger := none, owed := false },
          store := { s.store with holds := s.store.holds.set n.val none } }) ∧
    (c.state = .running → (s.ctx (contextOf n)).state = .awaitingReply → (s.ctx (contextOf n)).cancel = none →
      ∃ t u, exec (.stopCadence acc tag b) s = .next t ∧ Wakes u t ∧
        u = { s.finished i y own with
          cadences := s.cadences.set n { c with state := .stopping, reason := .requested },
          contexts := s.contexts.set n.val { s.ctx (contextOf n) with cancel := some .stop } }) ∧
    (c.state = .stopping → ∃ t, exec (.stopCadence acc tag b) s = .next t ∧ Wakes (s.finished i y own) t)

/-- A RELEASE: BAD FIELD for a cadence number above 7 or a must-be-zero field that is not zero; NO CADENCE for an IDLE
cadence; BAD RELEASE, with P and C, for an index outside C to P modulo 2^32; else C becomes the index, notice
outstanding is cleared, and the record holds P, C and the free space (R101, R102; log entry 21). -/
def Obligations.ReleaseMovesConsumer : Prop :=
  ∀ (s : State) (acc : Nat) (tag : BitVec 64) (b : Body) (i : Fin 40) (x : Slot) (n : Fin 8), s.live = true →
    s.takenBy acc = some i → s.slot i = some x →
    let c := s.cad n
    let named := (u8 b 0x00).toNat = n.val ∧ zeroAt b 0x01 3 = true ∧ zeroAt b 0x08 88 = true
    let index := u32 b 0x04
    let y := x.kept 6 tag b
    (7 < (u8 b 0x00).toNat ∨ zeroAt b 0x01 3 = false ∨ zeroAt b 0x08 88 = false → ∃ t,
      exec (.release acc tag b) s = .next t ∧ Wakes (s.finished i y { result := 2 }) t) ∧
    (named → c.state = .idle → ∃ t, exec (.release acc tag b) s = .next t ∧ Wakes (s.finished i y { result := 10 }) t) ∧
    (named → c.state ≠ .idle → (c.p - c.c).toNat < (index - c.c).toNat → ∃ t, exec (.release acc tag b) s = .next t ∧
      Wakes (s.finished i y { result := 11, countA := c.p, countB := c.c }) t) ∧
    (named → c.state ≠ .idle → (index - c.c).toNat ≤ (c.p - c.c).toNat → ∃ t, exec (.release acc tag b) s = .next t ∧
      Wakes { s.finished i y { result := 0, countA := c.p, countB := index } 0x08
          (le 4 (c.ringSize.toNat - (c.p - index).toNat)) with
        cadences := s.cadences.set n { c with c := index, outstanding := false } } t)

/-- A RECONFIGURE: BAD FIELD when a station is in both sets, both sets are empty, or a flag outside addresses 1-40 or
a must-be-zero field is not zero; BUSY while a loop operation is in progress and in every loop state but OPEN and
DOWN, LOOP DOWN in DOWN, QUIESCED in QUIESCING; else the loop enters DRAINING with every listed station NOT DONE and
every other UNLISTED, and from an empty window goes on to SWITCHING, where the SWITCH for the lowest listed station
goes out, when the transmitter is free, unless that station is to be bypassed and is BYPASSED (R65, R80, R81, R82,
R147; that the Loop Port's refusals come first in QUIESCING is log entry 35; log entry 21). -/
def Obligations.ReconfigureDrainsLoop : Prop :=
  ∀ (s : State) (acc : Nat) (tag : BitVec 64) (b : Body) (i : Fin 40) (x : Slot), s.live = true →
    s.takenBy acc = some i → s.slot i = some x → s.calm = true →
    let bypass := u64 b 0x00
    let restore := u64 b 0x08
    let bad := (∃ a, 1 ≤ a ∧ a ≤ 40 ∧ bypass.getLsbD a = true ∧ restore.getLsbD a = true) ∨ bypass = 0 ∧ restore = 0 ∨
      (∃ a, (a = 0 ∨ 40 < a) ∧ (bypass.getLsbD a = true ∨ restore.getLsbD a = true)) ∨ zeroAt b 0x10 80 = false
    let y := x.kept 8 tag b
    let ends := fun r : Nat => ∃ t, exec (.reconfigure acc tag b) s = .next t ∧ Wakes (s.finished i y { result := r }) t
    (bad → ends 2) ∧
    (¬ bad → s.loop.op.isSome = true → ends 9) ∧
    (¬ bad → s.loop.op = none → s.loop.state ≠ .opened → s.loop.state ≠ .down → ends 9) ∧
    (¬ bad → s.loop.op = none → s.loop.state = .down → ends 18) ∧
    (¬ bad → s.loop.op = none → s.loop.state = .opened → s.engine.state = .quiescing → ends 17) ∧
    (¬ bad → s.loop.op = none → s.loop.state = .opened → s.engine.state ≠ .quiescing →
      ∃ t u v, exec (.reconfigure acc tag b) s = .next t ∧
        (s.loop.window ≠ [] → Wakes u t) ∧
        (∀ a, s.active = true → s.loop.window = [] → bypass.getLsbD a = true ∨ restore.getLsbD a = true →
          (∀ k, k < a → bypass.getLsbD k = false ∧ restore.getLsbD k = false) →
          ¬ (bypass.getLsbD a = true ∧ (s.station a).state = .bypassed) →
          Wakes (u.switchSent { slot := i, bypass, restore, current := a, retries := s.engine.config.retryLimit,
                                resent := false, outcomes := v, sent := 0, timedOut := 0 }) t) ∧
        (∀ p : Fin 40, v[p] =
          if bypass.getLsbD (p.val + 1) || restore.getLsbD (p.val + 1) then Outcome40.notDone
          else .unlisted) ∧
        u = { s with
          intake := { s.intake with custody := s.intake.custody.set i (some { y with state := .loopOp }) },
          loop := { s.loop with
            state := .draining,
            op := some (.reconfigure
              { slot := i, bypass, restore, current := 0, retries := 0, resent := false,
                outcomes := v, sent := 0, timedOut := 0 }) } })

/-- A LOOP RESTART whose fields pass: BUSY while a loop operation is in progress, NO EFFECT in every loop state but
DOWN, QUIESCED in QUIESCING; else the loop enters SYNCING and its first SYNC frame is sent (R62, R65, R147; log entry
35; log entries 12, 21). -/
def Obligations.LoopRestartLeavesDown : Prop :=
  ∀ (s : State) (acc : Nat) (tag : BitVec 64) (b : Body) (i : Fin 40) (x : Slot), s.live = true →
    s.takenBy acc = some i → s.slot i = some x → s.calm = true → restartFieldsOk b = true →
    let y := x.kept 10 tag b
    let ends := fun r : Nat => ∃ t, exec (.loopRestart acc tag b) s = .next t ∧ Wakes (s.finished i y { result := r }) t
    (s.loop.op.isSome = true → ends 9) ∧
    (s.loop.op = none → s.loop.state ≠ .down → ends 13) ∧
    (s.loop.op = none → s.loop.state = .down → s.engine.state = .quiescing → ends 17) ∧
    (s.loop.op = none → s.loop.state = .down → s.engine.state = .running → s.loop.transmitting = none →
      ∃ t u, exec (.loopRestart acc tag b) s = .next t ∧ Wakes u t ∧
        u = { s with
          intake := { s.intake with custody := s.intake.custody.set i (some { y with state := .loopOp }) },
          loop := { s.loop with
            state := .syncing, window := [], sequence := 0, attempt := 1, settleTimer := none, quietTimer := none,
            syncTimer := none, syncWaits := true, sendDue := false, transmitting := some (syncFrame 1),
            op := some (.restart i),
            stats := { s.loop.stats with framesSent := satInc s.loop.stats.framesSent } },
          link := { s.link with issued := s.link.issued ++ [.frame (syncFrame 1)] } })

/-- A SET ATTENTION: a listed station takes its new setting, its entry becomes HELD or WAITING with it, the HELD
entries are discarded when asked for, and the record holds the entries discarded and left, and of these the WAITING
and the HELD (R113; log entry 21). -/
def Obligations.SetAttentionSetsAndDiscards : Prop :=
  ∀ (s : State) (acc : Nat) (tag : BitVec 64) (b : Body) (i : Fin 40) (x : Slot), s.live = true →
    s.takenBy acc = some i → s.slot i = some x → attentionFieldsOk b = true →
    let enable := u64 b 0x00
    let disable := u64 b 0x08
    let entries := s.attention.map fun e : Attention => { e with
      held := if disable.getLsbD e.station.toNat then true
        else if enable.getLsbD e.station.toNat then false else e.held }
    let kept := if u8 b 0x10 = 1 then entries.filter fun e : Attention => !e.held else entries
    ∃ t u, exec (.setAttention acc tag b) s = .next t ∧ Wakes u t ∧
      (∀ p : Fin 40, u.stations[p] = { s.stations[p] with
        attention := if disable.getLsbD (p.val + 1) then false
          else if enable.getLsbD (p.val + 1) then true else s.stations[p].attention }) ∧
      { u with stations := s.stations } = { s.finished i (x.kept 9 tag b)
          { result := 0, countA := BitVec.ofNat 32 (s.attention.length - kept.length),
            countB := BitVec.ofNat 32 kept.length } 0x20
          (le 4 (kept.filter fun e : Attention => !e.held).length ++
            le 4 (kept.filter fun e : Attention => e.held).length) with
        attention := kept }

/-- A QUERY whose fields pass. STATIONS and CADENCES: BAD ADDRESS for a buffer outside the windows, SHORT BUFFER with
the bytes needed for one under 320 or 640; else the records are written into the buffer and the counts into the frame.
LOOP and HOLDS: the answer is written into the body; LOOP with the clear flag then clears the eight counters, after
they are reported, and no QUERY changes anything else (R172 to R178; log entry 21). -/
def Obligations.QueriesAnswer : Prop :=
  ∀ (s : State) (acc : Nat) (tag : BitVec 64) (b : Body) (i : Fin 40) (x : Slot), s.live = true →
    s.takenBy acc = some i → s.slot i = some x → queryFieldsOk b = true →
    let y := x.kept 11 tag b
    let buffer := u64 b 0x00
    let room := (u32 b 0x08).toNat
    (∀ c need, (c, need) ∈ [(Instr.queryStations acc tag b, 320), (.queryCadences acc tag b, 640)] →
      u8 b 0x0C = (if need = 320 then 1 else 3) →
      (s.inWindow true buffer room = false → ∃ t, exec c s = .next t ∧ Wakes (s.finished i y { result := 3 }) t) ∧
      (s.inWindow true buffer room = true → room < need → ∃ t, exec c s = .next t ∧
        Wakes (s.finished i y { result := 4, countA := BitVec.ofNat 32 need }) t)) ∧
    (u8 b 0x0C = 1 → s.inWindow true buffer room = true → 320 ≤ room →
      ∃ t records, exec (.queryStations acc tag b) s = .next t ∧ records.length = 320 ∧
        (∀ p : Fin 40, (records.drop (8 * p.val)).take 8 =
          le 1 s.stations[p].state.code ++ le 1 (if s.stations[p].attention = true then 1 else 2) ++
            le 1 (entryCode s.attention (p.val + 1)) ++ zeros 1 ++ le32 s.stations[p].ident) ∧
        Wakes ((s.issueAll [.write buffer records]).finished i y
          { result := 0, countA := BitVec.ofNat 32 (s.stations.toList.filter fun v => v.state == .present).length,
            countB := BitVec.ofNat 32 s.attention.length }) t) ∧
    (u8 b 0x0C = 3 → s.inWindow true buffer room = true → 640 ≤ room →
      ∃ t records, exec (.queryCadences acc tag b) s = .next t ∧ records.length = 640 ∧
        (∀ n : Fin 8, (records.drop (80 * n.val)).take 80 = (s.cad n).queryBytes) ∧
        Wakes ((s.issueAll [.write buffer records]).finished i y
          { result := 0, countA := BitVec.ofNat 32 (s.cadences.toList.filter fun v => v.state != .idle).length,
            countB := BitVec.ofNat 32 (s.cadences.toList.filter fun v => v.owed).length }) t) ∧
    (u8 b 0x0C = 2 → ∃ t, exec (.queryLoop acc tag b) s = .next t ∧
      Wakes { s.finished i y
          { result := 0, countA := s.engine.timeBase, countB := s.loop.stats.recoveries } 0
          (s.loopReport (u8 b 0x0D == 1)) with
        loop := { s.loop with stats := if u8 b 0x0D = 1 then Stats.zero else s.loop.stats } } t) ∧
    (u8 b 0x0C = 4 → ∃ t, exec (.queryHolds acc tag b) s = .next t ∧
      Wakes (s.finished i y
        { result := 0, countA := BitVec.ofNat 32 (s.store.holds.toList.filter Option.isSome).length,
          countB := BitVec.ofNat 32 ((List.range 2048).filter s.store.heldAt).length } 0 s.holdReport) t)

/-- A CANCEL: with no request of its tag pending or in a request context it completes NOT FOUND; a pending request of
its tag completes CANCELLED, with its own record behind it; a request context at work on its tag that awaits a reply
is flagged CANCEL and goes on to its outcome. The CANCEL's record holds how many were pending and how many in a
context (R42, R150; log entry 21). -/
def Obligations.CancelFindsTag : Prop :=
  ∀ (s : State) (acc : Nat) (tag : BitVec 64) (b : Body) (i : Fin 40) (x : Slot), s.live = true →
    s.takenBy acc = some i → s.slot i = some x → s.calm = true → cancelFieldsOk b = true →
    ((s.ctx ctxA).state = .idle ∨ (s.ctx ctxA).owner ≠ i) → ((s.ctx ctxB).state = .idle ∨ (s.ctx ctxB).owner ≠ i) →
    i ∉ s.intake.pendingList →
    let wanted := u64 b 0x00
    let y := x.kept 12 tag b
    ((∀ k ∈ s.intake.pendingList, s.tagged wanted k = false) → s.runsTagged wanted ctxA = false →
      s.runsTagged wanted ctxB = false →
      ∃ t, exec (.cancel acc tag b) s = .next t ∧ Wakes (s.finished i y { result := 12 }) t) ∧
    (∀ k z, s.intake.pendingList = [k] → s.slot k = some z → s.tagged wanted k = true →
      s.runsTagged wanted ctxA = false → s.runsTagged wanted ctxB = false →
      ∃ t u, exec (.cancel acc tag b) s = .next t ∧ Wakes u t ∧
        { u with intake := { u.intake with pendingList := s.intake.pendingList } } =
          (s.finished k z { result := 15 }).finished i y { result := 0, countA := 1 } ∧
        u.intake.pendingList = []) ∧
    (s.intake.pendingList = [] → s.runsTagged wanted ctxA = true → s.runsTagged wanted ctxB = false →
      (s.ctx ctxA).state = .awaitingReply → (s.ctx ctxA).cancel = none →
      ∃ t, exec (.cancel acc tag b) s = .next t ∧
        Wakes { s.finished i y { result := 0, countB := 1 } with
          contexts := s.contexts.set 8 { s.ctx ctxA with cancel := some .cancel } } t)

/-! ### Contexts (chapter 2) -/

/-- The input read of an element: the word that arrives is held for it, and its context is granted when a grant can be
made and its station is not BYPASSED (R24, R50); the failed read is INPUT FAULT, which halts a RUN whatever its
on-error: STEP FAILED, with the step, its station and the counts so far (R22, R32, R34, R39; log entry 21). A report
no context waits for changes nothing. -/
def Obligations.InputReadsFeedElements : Prop :=
  ∀ (s : State) (acc : Nat) (w : Word), s.live = true → s.calm = true →
    (∀ i, s.reading acc = some i →
      (s.canGrant = true → (s.station (s.ctx i).elem.station.toNat).state ≠ .bypassed) →
      ∃ t, exec (.inputWordArrival acc w) s = .next t ∧
        Wakes ({ s with contexts := s.contexts.set i { s.ctx i with held := some w, inputRead := none } }.offered i) t) ∧
    (s.reading acc = none → ∃ t t', exec (.inputWordArrival acc w) s = .next t ∧ Wakes s t ∧
      exec (.inputReadFail acc) s = .next t' ∧ Wakes s t') ∧
    (∀ i z, s.reading acc = some i → (s.ctx i).job = .run → (s.ctx i).cancel = none → s.slot (s.ctx i).owner = some z →
      s.intake.pendingList = [] →
      let c := s.ctx i
      ∃ t c', exec (.inputReadFail acc) s = .next t ∧ c'.state = .idle ∧
        Wakes { s.finished c.owner z
            { result := 14, stepError := 8, station := c.elem.station.toNat, stepIndex := c.step,
              countA := BitVec.ofNat 32 c.entries, countB := BitVec.ofNat 32 c.words } 0x20
            (le 4 c.shortSteps ++ le 4 c.continued ++ le 4 c.lmax ++ le 4 c.wmax) with
          contexts := s.contexts.set i c',
          store := { s.store with holds := s.store.holds.set i none } } t)

/-- The end of a pause takes the context to its next step: an EXCHANGE or BLOCK step's first element begins, granted
at once or waiting in ISSUING, behind the read of its input word when it takes one; a PAUSE pauses again; a MARK
writes its entry and the step behind it follows in the event, here a PAUSE; the END completes a RUN DONE and returns a
RUNNING cadence to WAITING. The end of the await gap takes the context back to ISSUING. A timer that does not run, or
another state, changes nothing (R21, R22, R23, R24, R29, R35, R39, R50, R96; log entry 2; log entry 21). -/
def Obligations.PausesAndGapsEnd : Prop :=
  ∀ (s : State) (i : CtxId), s.live = true → s.calm = true →
    let c := s.ctx i
    let grantable := fun e : Exchange => s.canGrant = true → (s.station e.station.toNat).state ≠ .bypassed
    let element : Exchange → Nat → Context := fun e n => { c with
      timer := none, step := c.step + 1, elem := e, remaining := n, element := 0, state := .issuing,
      retries := s.engine.config.retryLimit, readyWait := 0, readyOn := false, attempts := 0, held := none }
    (c.state = .paused → c.timer.isSome = true → c.cancel = none →
      (∀ st e n, fetchStep s.store.steps (c.step + 1) = some st →
        (st = .exchange e ∧ n = 1) ∨ (∃ count : BitVec 16, st = .block e count ∧ n = count.toNat) →
        s.loop.state ≠ .down →
        (e.access.isInput = false → grantable e → ∃ t, exec (.pauseExpiry i) s = .next t ∧
          Wakes ({ s with contexts := s.contexts.set i (element e n) }.offered i) t) ∧
        (e.access.isInput = true → ∃ t, exec (.pauseExpiry i) s = .next t ∧
          Wakes { s with
            contexts := s.contexts.set i { element e n with inputRead := some s.link.nextAcc },
            link := { nextAcc := s.link.nextAcc + 1,
                      issued := s.link.issued ++ [.read s.link.nextAcc c.inCursor 4] } } t)) ∧
      (∀ n : BitVec 16, fetchStep s.store.steps (c.step + 1) = some (.pause n) → ∃ t, exec (.pauseExpiry i) s = .next t ∧
        Wakes { s with contexts := s.contexts.set i { c with timer := some n.toNat, step := c.step + 1 } } t) ∧
      (∀ (label : Word) (n : BitVec 16), c.job = .run → fetchStep s.store.steps (c.step + 1) = some (.mark label) →
        fetchStep s.store.steps (c.step + 2) = some (.pause n) → ∃ t, exec (.pauseExpiry i) s = .next t ∧
          Wakes { s with
            contexts := s.contexts.set i { c with
              timer := some n.toNat, step := c.step + 2, shortPending := false, entries := c.entries + 1,
              outCursor := c.outCursor + 16 },
            link := { s.link with issued := s.link.issued ++ [.write c.outCursor (Entry.bytes
              { kind := .mark, runSequence := c.runSequence, step := c.step + 1, station := 0, element := 0, ack := false,
                ready := false, failed := false, shortEnd := c.shortPending, data := label,
                time := s.engine.timeBase })] } } t) ∧
      (∀ z, fetchStep s.store.steps (c.step + 1) = some .endStep → c.job = .run → c.failing = none →
        s.slot c.owner = some z → s.intake.pendingList = [] →
        ∃ t c', exec (.pauseExpiry i) s = .next t ∧ c'.state = .idle ∧
          Wakes { s.finished c.owner z
              { result := 0, countA := BitVec.ofNat 32 c.entries, countB := BitVec.ofNat 32 c.words } 0x20
              (le 4 c.shortSteps ++ le 4 c.continued ++ le 4 c.lmax ++ le 4 c.wmax) with
            contexts := s.contexts.set i c',
            store := { s.store with holds := s.store.holds.set i none } } t) ∧
      (∀ n : Fin 8, fetchStep s.store.steps (c.step + 1) = some .endStep → c.job = .cadence → i.val = n.val →
        (s.cad n).state = .running → ∃ t c', exec (.pauseExpiry i) s = .next t ∧ c'.state = .idle ∧
          Wakes { s with contexts := s.contexts.set i c',
                         cadences := s.cadences.set n { s.cad n with state := .waiting } } t)) ∧
    (c.state = .backingOff → c.timer.isSome = true → grantable c.elem → ∃ t, exec (.awaitGapExpiry i) s = .next t ∧
      Wakes ({ s with contexts := s.contexts.set i { c with timer := none, state := .issuing } }.offered i) t) ∧
    (c.state ≠ .paused ∨ c.timer = none → ∃ t, exec (.pauseExpiry i) s = .next t ∧ Wakes s t) ∧
    (c.state ≠ .backingOff ∨ c.timer = none → ∃ t, exec (.awaitGapExpiry i) s = .next t ∧ Wakes s t)

/-! ### The Loop Port (chapters 3 and 4) -/

/-- The arbiter chooses: below a guard count of 8, or with no request context eligible, the first eligible cadence
context from the one after last cadence granted, wrapping from 7 to 0; with no cadence context eligible, or at a guard
count of 8, an eligible request context, and of two the one not granted last. Each grant, one that lapses too, leaves
its number as last cadence or last request granted, and the guard count one higher after a cadence grant that passed a
request context, else 0 (R51, R52). -/
def Obligations.ArbiterChoosesNextGrant : Prop :=
  ∀ s : State,
    let ready := fun i : CtxId => (s.ctx i).eligible = true
    let cadence := fun k : Nat => contextOf (s.loop.lastCadence + 1 + Fin.ofNat 8 k)
    let request := if ready ctxA ∧ ready ctxB then (if s.loop.lastRequestB = true then ctxA else ctxB)
      else if ready ctxA then ctxA else ctxB
    (∀ k, k < 8 → ready (cadence k) → (∀ j, j < k → ¬ ready (cadence j)) →
      s.loop.guard < 8 ∨ (¬ ready ctxA ∧ ¬ ready ctxB) → s.pick = some (cadence k)) ∧
    (ready ctxA ∨ ready ctxB → (∀ k, k < 8 → ¬ ready (cadence k)) ∨ 8 ≤ s.loop.guard → s.pick = some request) ∧
    ((∀ i, ¬ ready i) → s.pick = none) ∧
    ∀ i t, s.pick = some i → s.grant = some t →
      t.loop.lastCadence = (cadenceOf i).getD s.loop.lastCadence ∧
      t.loop.lastRequestB = (if i.val < 8 then s.loop.lastRequestB else i == ctxB) ∧
      t.loop.guard = if i.val < 8 ∧ (ready ctxA ∨ ready ctxB) then s.loop.guard + 1 else 0

/-- The end of a transmission: the frame's record takes its send time and its reply deadline, and in SYNCING the SYNC
timer is started; in OPEN, with a place in the window and a context to grant whose station is not BYPASSED, the next
COMMAND is granted, recorded and sent in the same event (R24, R47, R48, R50, R51, R52, R62, R68; log entry 12). Out of
a transmission it changes nothing. -/
def Obligations.TransmitEndGrantsNext : Prop :=
  ∀ s : State, s.live = true → s.released = [] → s.intake.pendingList = [] → s.loop.sendDue = false →
    let now := s.engine.timeBase
    let sent : List InFlight := s.loop.window.map fun r : InFlight =>
      if r.sendTime.isNone then
        { r with sendTime := some now, deadline := some (now + BitVec.ofNat 32 s.engine.config.replyTimeout) }
      else r
    (∀ f, s.loop.transmitting = some f → ¬ (s.loop.state = .draining ∧ s.loop.window = []) →
      s.loop.state ≠ .opened ∨ s.pick = none ∨ 4 ≤ s.loop.window.length →
      ∃ t, exec .frameTransmitEnd s = .next t ∧
        Wakes { s with loop := { s.loop with
          transmitting := none, window := sent,
          syncTimer := if s.loop.state = .syncing ∧ s.loop.syncWaits = true then some s.engine.config.replyTimeout
            else s.loop.syncTimer } } t) ∧
    (∀ f i, s.engine.state = .running → s.loop.transmitting = some f → s.loop.state = .opened →
      s.loop.window.length < 4 → s.pick = some i → (s.station (s.ctx i).elem.station.toNat).state ≠ .bypassed →
      let c := s.ctx i
      let frame : LoopFrame :=
        { type := 1, sequence := s.loop.sequence, station := c.elem.station, opClass := c.elem.access.code,
          register := c.elem.register, width := c.elem.width.code, ack := false, ready := false, data := c.frameData }
      ∃ t u l, exec .frameTransmitEnd s = .next t ∧ Wakes u t ∧
        u = { s with
          contexts := s.contexts.set i { c with attempts := c.attempts + 1, state := .awaitingReply },
          loop := l,
          link := { s.link with issued := s.link.issued ++ [.frame frame] } } ∧
        l = { s.loop with
          transmitting := some frame,
          window := sent ++ [{ sequence := s.loop.sequence, owner := .context i, frame, sendTime := none,
                               deadline := none }],
          sequence := s.loop.sequence + 1,
          lastCadence := (cadenceOf i).getD s.loop.lastCadence,
          lastRequestB := if i.val < 8 then s.loop.lastRequestB else i == ctxB,
          guard := if i.val < 8 ∧ s.pickRequest.isSome = true then s.loop.guard + 1 else 0,
          stats := { s.loop.stats with framesSent := satInc s.loop.stats.framesSent } }) ∧
    (s.loop.transmitting = none → s.calm = true → ∃ t, exec .frameTransmitEnd s = .next t ∧ Wakes s t)

/-- An accepted REPLY for a context: it is counted, the line-loss latch and the record leave, the station is PRESENT,
for a probe with its ident word, and no other station record changes; what the context then does changes neither the
engine, the store's steps, the other counters, the attention set nor the lock. A completed element that is logged
writes its DATA entry first of all that the event issues (log entry 18), at the RUN's output cursor or at the
cadence's place in its ring, where P then counts it. At an interval boundary with notice outstanding clear,
outstanding and owed are set and the next boundary moves on; with it set, the RUNNING cadence stops LAGGING and its
run ends. A halting error writes the cadence's FAULT entry and counts a failed run. A run's end returns a RUNNING
cadence to WAITING; there the transmitter is busy, or no context else is eligible (R26, R27, R34, R35, R56, R68, R73,
R76, R96, R98, R99, R103, R105; log entries 21, 33). The receiver's place behind a frame is log entry 26. -/
def Obligations.ReplyIsCountedAndLogged : Prop :=
  ∀ (s : State) (r : InFlight) (rest : List InFlight) (i : CtxId) (ack ready : Bool) (data : Word), s.live = true →
    s.loop.state = .opened ∨ s.loop.state = .draining → s.loop.window = r :: rest → r.owner = .context i →
    ((s.ctx i).job = .survey → (s.ctx i).element = (s.ctx i).elem.station.toNat) →
    let c := s.ctx i
    let heard : State := { s.modStation c.elem.station.toNat fun x => { x with
        state := .present, ident := if c.job = .survey then (if ack = true then data else 0) else x.ident } with
      loop := { s.loop with
        window := rest, lineLoss := false, receiver := .between false,
        stats := { s.loop.stats with repliesAccepted := satInc s.loop.stats.repliesAccepted } } }
    let entry := fun (kind : EntryKind) (ack ready failed : Bool) (value : Word) => Entry.bytes
      { kind, runSequence := c.runSequence, step := c.step, station := c.elem.station, element := c.element, ack, ready,
        failed, shortEnd := c.shortPending, data := value, time := s.engine.timeBase }
    let place := fun k : Cadence => k.ringBase + BitVec.ofNat 64 (16 * (k.p.toNat % k.ringSize.toNat))
    let completed := ack = true ∧ (ready = true ∨ c.elem.readiness = .accept) ∧ c.elem.access.logged = true
    ∃ t, exec (.replyArrival r.sequence r.frame.station ack ready data) s = .next t ∧
      Settles heard t ∧ t.loop.lineLoss = false ∧
      (s.engine.state ≠ .quiescing → ∃ w, t.loop.window = rest ++ w) ∧
      (completed → c.job = .run →
        ∃ l, t.link.issued = s.link.issued ++ .write c.outCursor (entry .data true ready false (c.elem.width.limit data)) ::
          l) ∧
      ∀ n : Fin 8, c.job = .cadence → i.val = n.val →
        let k := s.cad n
        let moved : Cadence := if k.p + 1 = k.nextBoundary
          then { k with p := k.p + 1, outstanding := true, owed := true, nextBoundary := k.nextBoundary + k.interval }
          else { k with p := k.p + 1 }
        let quiet := s.loop.state = .opened ∧ s.released = [] ∧ s.intake.pendingList = [] ∧ c.cancel = none ∧
          (s.loop.transmitting.isSome = true ∨ s.loop.sendDue = false ∧ ∀ j, (s.ctx j).eligible = false)
        (completed → ∃ l, t.link.issued = s.link.issued ++
          .write (place k) (entry .data true ready false (c.elem.width.limit data)) :: l) ∧
        (quiet → completed → k.state = .running → k.p + 1 ≠ k.nextBoundary ∨ k.outstanding = false → c.remaining ≤ 1 →
          fetchStep s.store.steps (c.step + 1) = some .endStep →
          ∃ c', c'.state = .idle ∧ Wakes { heard with
            contexts := s.contexts.set i c', cadences := s.cadences.set n { moved with state := .waiting },
            link := { s.link with issued := s.link.issued ++
              [.write (place k) (entry .data true ready false (c.elem.width.limit data))] } } t) ∧
        (∀ z, quiet → completed → k.state = .running → k.p + 1 = k.nextBoundary → k.outstanding = true →
          s.slot k.startSlot = some z →
          ∃ c', c'.state = .idle ∧ Wakes { (heard.issueAll
                [.write (place k) (entry .data true ready false (c.elem.width.limit data))]).finished k.startSlot z
              { result := 16, stepError := 3, stepIndex := k.programStart.toNat, countA := k.p + 1,
                countB := k.runsStarted }
              0x20 (le32 k.c ++ le32 k.overlapMisses ++ le32 k.spaceMisses ++ le32 k.runsFailed ++
                le32 k.runSequence ++ le32 k.lmax) with
            contexts := s.contexts.set i c',
            cadences := s.cadences.set n
              { k with p := k.p + 1, state := .idle, reason := .lagging, trigger := none, owed := false },
            store := { s.store with holds := s.store.holds.set n.val none } } t) ∧
        (quiet → ack = false → c.elem.goOn = false → k.state = .running →
          k.p + 1 ≠ k.nextBoundary ∨ k.outstanding = false →
          ∃ c', c'.state = .idle ∧ Wakes { heard with
            contexts := s.contexts.set i c',
            cadences := s.cadences.set n { moved with state := .waiting, runsFailed := satInc k.runsFailed },
            link := { s.link with issued := s.link.issued ++ [.write (place k) (entry .fault false false true 1)] } } t)

/-- What an accepted REPLY does to its context. An EXCHANGE request completes DONE with the reply's data and
indicators. In a RUN: ack 0 under HALT is REFUSED and completes it STEP FAILED, under GO ON writes a failed entry when
logged and goes on; a completed element of a BLOCK step consumes its input word and the next element begins, behind
the read of the next word; not ready under STOP ends the step short and begins the next step; not ready under AWAIT
backs off for the await gap, or is READY TIMEOUT once ready-wait elapsed has reached the limit. A context that is to
send again is granted at once or waits in ISSUING; the transmitter is busy, or no other context is eligible and the
station is not BYPASSED (R22, R24, R25, R28, R29, R30, R32, R33, R34, R35, R36, R39, R41, R50; log entries 21, 33).
The receiver's place behind a frame is log entry 26. -/
def Obligations.ReplyEndsOrHoldsElement : Prop :=
  ∀ (s : State) (r : InFlight) (rest : List InFlight) (i : CtxId) (z : Slot) (data : Word), s.live = true →
    s.loop.state = .opened → s.loop.transmitting.isSome = true ∨ s.loop.sendDue = false ∧ (∀ j, (s.ctx j).eligible = false) →
    s.loop.window = r :: rest → r.owner = .context i →
    s.released = [] → s.intake.pendingList = [] → (s.ctx i).cancel = none → s.slot (s.ctx i).owner = some z →
    let c := s.ctx i
    let station := c.elem.station.toNat
    let value := c.elem.width.limit data
    let reply := fun ack ready => exec (.replyArrival r.sequence r.frame.station ack ready data) s
    let heard : State := { s.modStation station fun x => { x with state := .present } with
      loop := { s.loop with
        window := rest, lineLoss := false, receiver := .between false,
        stats := { s.loop.stats with repliesAccepted := satInc s.loop.stats.repliesAccepted } } }
    let told : Bool → Bool → Context := fun ack ready => { c with lastData := value, lastAck := ack, lastReady := ready }
    let begun : Context → Context := fun d => { d with
      state := .issuing, retries := s.engine.config.retryLimit, readyWait := 0, readyOn := false, attempts := 0,
      held := none, timer := none }
    let failed := fun (error : Nat) (ack ready : Bool) => ∃ t c', reply ack ready = .next t ∧ c'.state = .idle ∧
      Wakes { heard.finished c.owner z
          { result := 14, stepError := error, station, stepIndex := c.step, countA := BitVec.ofNat 32 c.entries,
            countB := BitVec.ofNat 32 c.words } 0x20
          (le 4 c.shortSteps ++ le 4 c.continued ++ le 4 c.lmax ++ le 4 c.wmax) with
        contexts := s.contexts.set i c',
        store := { s.store with holds := s.store.holds.set i none } } t
    (∀ ready, c.job = .exchange → c.shortPending = false → ready = true ∨ c.elem.readiness ≠ .await →
      ∃ t c', reply true ready = .next t ∧ c'.state = .idle ∧
        Wakes { heard.finished c.owner z { result := 0, station } 0x10
          (le32 value ++ le 4 c.attempts ++ le 1
            (if ready = true then 3 else if c.elem.readiness = .stop then 9 else 1)) with
          contexts := s.contexts.set i c' } t) ∧
    (∀ ready, c.job = .run → c.elem.goOn = false → failed 1 false ready) ∧
    (∀ ready, c.job = .run → c.elem.goOn = true → 1 < c.remaining → c.elem.access.isInput = false →
      ∃ t, reply false ready = .next t ∧
        let d : Context := { told false ready with
          continued := c.continued + 1, remaining := c.remaining - 1, element := c.element + 1,
          failing := some (c.failing.getD { step := c.step, error := .refused, station := c.elem.station }) }
        let logs := c.elem.access.logged = true
        Wakes ({ heard with
          contexts := s.contexts.set i (begun (if logs
            then { d with entries := c.entries + 1, outCursor := c.outCursor + 16, shortPending := false } else d)),
          link := { s.link with issued := s.link.issued ++ if logs then [Issue.write c.outCursor (Entry.bytes
            { kind := .data, runSequence := c.runSequence, step := c.step, station := c.elem.station,
              element := c.element, ack := false, ready, failed := true, shortEnd := c.shortPending, data := 1,
              time := s.engine.timeBase })] else [] } }.offered i) t) ∧
    (∀ ready, c.job = .run → ready = true ∨ c.elem.readiness = .accept → 1 < c.remaining → c.elem.access.logged = false →
      let d := begun { told true ready with remaining := c.remaining - 1, element := c.element + 1 }
      (c.elem.access.isInput = false → ∃ t, reply true ready = .next t ∧
        Wakes ({ heard with contexts := s.contexts.set i d }.offered i) t) ∧
      (c.elem.access.isInput = true → ∃ t, reply true ready = .next t ∧
        Wakes { heard with
          contexts := s.contexts.set i { d with
            inCursor := c.inCursor + 4, words := c.words + 1, inputRead := some s.link.nextAcc },
          link := { nextAcc := s.link.nextAcc + 1,
                    issued := s.link.issued ++ [.read s.link.nextAcc (c.inCursor + 4) 4] } } t)) ∧
    (∀ e, c.job = .run → c.elem.readiness = .stop → fetchStep s.store.steps (c.step + 1) = some (.exchange e) →
      e.access.isInput = false → s.loop.transmitting.isSome = true ∨ (heard.station e.station.toNat).state ≠ .bypassed →
      ∃ t, reply true false = .next t ∧
        Wakes ({ heard with contexts := s.contexts.set i (begun { told true false with
          shortPending := true, shortSteps := c.shortSteps + 1, step := c.step + 1, elem := e, remaining := 1,
          element := 0 }) }.offered i) t) ∧
    (c.job ≠ .survey → c.elem.readiness = .await →
      s.engine.config.readyWaitLimit = 0 ∨ c.readyWait < s.engine.config.readyWaitLimit * 1000 →
      (s.engine.config.awaitGap ≠ 0 → ∃ t, reply true false = .next t ∧
        Wakes { heard with contexts := s.contexts.set i { told true false with
          readyOn := true, state := .backingOff, timer := some s.engine.config.awaitGap } } t) ∧
      (s.engine.config.awaitGap = 0 → ∃ t, reply true false = .next t ∧
        Wakes ({ heard with contexts := s.contexts.set i { told true false with
          readyOn := true, state := .issuing } }.offered i) t)) ∧
    (c.job = .run → c.elem.goOn = false → c.elem.readiness = .await → 0 < s.engine.config.readyWaitLimit →
      s.engine.config.readyWaitLimit * 1000 ≤ c.readyWait → failed 5 true false)

/-- A COMMAND that comes back as it was sent is NO STATION: its station is ABSENT, and under HALT the RUN completes
STEP FAILED. A frame with a bad check takes the oldest record, is counted, and sends the element's context back to
ISSUING while it has retries, where it is granted at once or waits; when it takes the last record in DRAINING the loop
enters SWITCHING in the event. With no record it is counted alone; outside OPEN, DRAINING, SWITCHING and a waiting
SYNCING it is not (R24, R31, R34, R50, R54, R55, R56, R73, R81, R82; log entries 13, 21). The transmitter is busy, or
no other context is eligible and the station is not BYPASSED. The receiver's place behind a frame is log entry 26. -/
def Obligations.ReturnedAndDamagedFrames : Prop :=
  ∀ (s : State), s.live = true → s.released = [] → s.intake.pendingList = [] →
    let damaged : Stats := { s.loop.stats with checkFailures := satInc s.loop.stats.checkFailures }
    let heard : LoopPort := { s.loop with lineLoss := false, receiver := .between false }
    (∀ r rest i, s.loop.window = r :: rest → r.owner = .context i → (s.ctx i).cancel = none →
      let c := s.ctx i
      let back : State := { s with
        loop := { heard with window := rest, stats := damaged },
        contexts := s.contexts.set i { c with retries := c.retries - 1, state := .issuing } }
      (s.loop.state = .opened →
        s.loop.transmitting.isSome = true ∨ s.loop.sendDue = false ∧ (∀ j, (s.ctx j).eligible = false) →
        (∀ z, r.frame.type = 1 → c.job = .run → c.elem.goOn = false → s.slot c.owner = some z →
          ∃ t c', exec (.frameReturned r.frame) s = .next t ∧ c'.state = .idle ∧
            Wakes { (s.modStation c.elem.station.toNat fun x => { x with state := .absent }).finished c.owner z
                { result := 14, stepError := 2, station := c.elem.station.toNat, stepIndex := c.step,
                  countA := BitVec.ofNat 32 c.entries, countB := BitVec.ofNat 32 c.words } 0x20
                (le 4 c.shortSteps ++ le 4 c.continued ++ le 4 c.lmax ++ le 4 c.wmax) with
              loop := { heard with window := rest },
              contexts := s.contexts.set i c',
              store := { s.store with holds := s.store.holds.set i none } } t) ∧
        (0 < c.retries → s.loop.transmitting.isSome = true ∨ (s.station c.elem.station.toNat).state ≠ .bypassed →
          ∃ t, exec .badCheckFrame s = .next t ∧ Wakes (back.offered i) t)) ∧
      (∀ (x : Reconfigure) (a : Nat), s.active = true → s.loop.state = .draining → rest = [] → 0 < c.retries →
        s.loop.op = some (.reconfigure x) → 1 ≤ a → a ≤ 40 → x.bypass.getLsbD a = true ∨ x.restore.getLsbD a = true →
        (∀ k, 1 ≤ k → k < a → x.bypass.getLsbD k = false ∧ x.restore.getLsbD k = false) →
        ¬ (x.bypass.getLsbD a = true ∧ (s.station a).state = .bypassed) →
        ∃ t, exec .badCheckFrame s = .next t ∧
          Wakes (back.switchSent { x with current := a, retries := s.engine.config.retryLimit, resent := false }) t)) ∧
    (s.calm = true →
      (s.loop.state = .opened ∨ s.loop.state = .switching → s.loop.window = [] →
        ∃ t, exec .badCheckFrame s = .next t ∧ Wakes { s with loop := { heard with stats := damaged } } t) ∧
      (s.loop.state = .syncing → s.loop.syncWaits = true → ∃ t, exec .badCheckFrame s = .next t ∧
        Wakes { s with loop := { heard with stats := damaged } } t) ∧
      (s.loop.state = .down ∨ s.loop.state = .quiet ∨ s.loop.state = .settling ∨
          s.loop.state = .syncing ∧ s.loop.syncWaits = false →
        ∃ t, exec .badCheckFrame s = .next t ∧ Wakes { s with loop := heard } t))

/-- The answer to a SWITCH frame: ack 1 with the asked position on the first frame is ALREADY, any other ack 1
SWITCHED, ack 0 REFUSED, and the SWITCH frame back unanswered NO STATION; the station's record follows (BYPASSED when
bypassed, PRESENT or ABSENT as the answer shows, UNKNOWN when switched back in). A bad check sends the same SWITCH
again while it has retries, and with none left leaves NOT DONE. The next listed station then gets its SWITCH in the
event, unless it is to be bypassed and is BYPASSED; after the last the loop enters SETTLING (R47, R55, R82, R83, R85;
log entries 12, 13). The receiver's place behind a frame is log entry 26. -/
def Obligations.SwitchAnswerDecidesStation : Prop :=
  ∀ (s : State) (r : InFlight) (x : Reconfigure) (p : Fin 40) (data : Word), s.live = true → s.active = true →
    s.released = [] → s.intake.pendingList = [] → s.loop.state = .switching → s.loop.window = [r] → r.owner = .reconfigure →
    s.loop.op = some (.reconfigure x) → x.current = p.val + 1 →
    let bypassing := x.bypass.getLsbD x.current
    let asked : Word := if bypassing = true then 1 else 2
    let answered : Stats := { s.loop.stats with repliesAccepted := satInc s.loop.stats.repliesAccepted }
    let damaged : Stats := { s.loop.stats with checkFailures := satInc s.loop.stats.checkFailures }
    let heard : Stats → LoopPort := fun k => { s.loop with window := [], lineLoss := false, receiver := .between false, stats := k }
    let decides := fun (c : Instr) (o : Outcome40) (st : StationState) (k : Stats) =>
      let x' : Reconfigure := { x with outcomes := x.outcomes.set p o }
      let u : State := { s with stations := s.stations.set p { s.stations[p] with state := st }, loop := heard k }
      ∃ t, exec c s = .next t ∧
        ((∀ a, x.current < a → a ≤ 40 → x.bypass.getLsbD a = false ∧ x.restore.getLsbD a = false) →
          Wakes { u with loop := { u.loop with
            state := .settling, sendDue := false, settleTimer := some s.engine.config.settleInterval,
            op := some (.reconfigure x') } } t) ∧
        (∀ a, x.current < a → a ≤ 40 → x.bypass.getLsbD a = true ∨ x.restore.getLsbD a = true →
          (∀ k, x.current < k → k < a → x.bypass.getLsbD k = false ∧ x.restore.getLsbD k = false) →
          ¬ (x.bypass.getLsbD a = true ∧ (s.station a).state = .bypassed) →
          Wakes (u.switchSent { x' with current := a, retries := s.engine.config.retryLimit, resent := false }) t)
    (∀ ready, data = asked → x.resent = false →
      decides (.replyArrival r.sequence r.frame.station true ready data) .already
        (if bypassing = true then .bypassed else .present) answered) ∧
    (∀ ready, data ≠ asked ∨ x.resent = true →
      decides (.replyArrival r.sequence r.frame.station true ready data) .switched
        (if bypassing = true then .bypassed else .unknown) answered) ∧
    (∀ ready, decides (.replyArrival r.sequence r.frame.station false ready data) .refused
      (if bypassing = true then .present else s.stations[p].state) answered) ∧
    (r.frame.type = 5 → decides (.frameReturned r.frame) .noStation
      (if bypassing = true then .absent else s.stations[p].state) s.loop.stats) ∧
    (x.retries = 0 → decides .badCheckFrame .notDone s.stations[p].state damaged) ∧
    (0 < x.retries → ∃ t, exec .badCheckFrame s = .next t ∧
      Wakes ({ s with loop := heard damaged }.switchSent { x with retries := x.retries - 1, resent := true }) t)

/-- An ATTENTION with a good check, taken in OPEN, DRAINING, SWITCHING and a waiting SYNCING: it is counted; from a
station 1-40 with an entry it is merged into it (last code, repeat count up to 255) and counted as merged; from one
without, an entry is appended, WAITING or HELD by the station's setting; from any other address it is only counted. In
every other loop state it is discarded (R54, R110, R111). The receiver's place behind a frame is log entry 26. -/
def Obligations.AttentionIsMergedOrAppended : Prop :=
  ∀ (s : State) (a : BitVec 6) (code : Word), s.live = true →
    let takes := s.loop.state = .opened ∨ s.loop.state = .draining ∨ s.loop.state = .switching ∨
      s.loop.state = .syncing ∧ s.loop.syncWaits = true
    let received := { s.loop.stats with attentionsReceived := satInc s.loop.stats.attentionsReceived }
    let inside := 1 ≤ a.toNat ∧ a.toNat ≤ 40
    (takes → inside → (∃ e ∈ s.attention, e.station = a) → ∃ t, exec (.attentionArrival a code) s = .next t ∧
      Wakes { s with
        loop := { s.loop with
          lineLoss := false, receiver := .between false,
          stats := { received with attentionsMerged := satInc s.loop.stats.attentionsMerged } },
        attention := s.attention.map fun e => if e.station = a then
          { e with lastCode := code, repeats := if e.repeats = 255 then 255 else e.repeats + 1 } else e } t) ∧
    (takes → inside → (∀ e ∈ s.attention, e.station ≠ a) → ∃ t, exec (.attentionArrival a code) s = .next t ∧
      Wakes { s with
        loop := { s.loop with lineLoss := false, receiver := .between false, stats := received },
        attention := s.attention ++ [{ station := a, firstCode := code, lastCode := code, repeats := 1,
                                       arrival := s.engine.timeBase, held := !(s.station a.toNat).attention }] } t) ∧
    (takes → ¬ inside → ∃ t, exec (.attentionArrival a code) s = .next t ∧
      Wakes { s with loop := { s.loop with lineLoss := false, receiver := .between false, stats := received } } t) ∧
    (¬ takes → ∃ t, exec (.attentionArrival a code) s = .next t ∧
      Wakes { s with loop := { s.loop with lineLoss := false, receiver := .between false } } t)

/-- The SYNC of the attempt that waits opens the loop, and completes a LOOP RESTART with DONE and the attempts it
took, or a RECONFIGURE with DONE, the station that timed out, the frames sent, the stations switched and the 40
outcomes; another pattern is discarded, as is a SYNC in DOWN, QUIET, SETTLING and between two attempts (R54, R62, R63,
R66, R85; log entries 12, 21). Here no context is ready to be granted. The receiver's place behind a frame is log
entry 26. -/
def Obligations.MatchingSyncOpensLoop : Prop :=
  ∀ (s : State) (pattern : Word), s.live = true →
    let opened : LoopPort := { s.loop with
      state := .opened, syncTimer := none, quietTimer := none, syncWaits := false, sendDue := false, lineLoss := false,
      receiver := .between false, op := none }
    (s.loop.state = .syncing → s.loop.syncWaits = true → pattern = 0x5AC39600 + BitVec.ofNat 32 s.loop.attempt →
      s.released = [] → s.intake.pendingList = [] → (∀ i, (s.ctx i).eligible = false) →
      (s.loop.op = none → ∃ t, exec (.syncArrival pattern) s = .next t ∧ Wakes { s with loop := opened } t) ∧
      (∀ j z, s.loop.op = some (.restart j) → s.slot j = some z → (∀ i, (s.ctx i).state ≠ .checking) →
        ∃ t, exec (.syncArrival pattern) s = .next t ∧
          Wakes { s.finished j z { result := 0, countA := BitVec.ofNat 32 s.loop.attempt } with loop := opened } t) ∧
      (∀ x z, s.loop.op = some (.reconfigure x) → s.slot x.slot = some z → (∀ i, (s.ctx i).state ≠ .checking) →
        ∃ t, exec (.syncArrival pattern) s = .next t ∧
          Wakes { s.finished x.slot z
            { result := 0, station := x.timedOut, countA := BitVec.ofNat 32 x.sent,
              countB := BitVec.ofNat 32 (x.outcomes.toList.filter fun o => o == .switched).length } 0x20
            (x.outcomes.toList.flatMap fun o => le 1 o.code) with loop := opened } t)) ∧
    (s.calm = true →
      s.loop.state = .down ∨ s.loop.state = .quiet ∨ s.loop.state = .settling ∨
        s.loop.state = .syncing ∧ (s.loop.syncWaits = false ∨ pattern ≠ 0x5AC39600 + BitVec.ofNat 32 s.loop.attempt) →
      ∃ t, exec (.syncArrival pattern) s = .next t ∧
        Wakes { s with loop := { s.loop with lineLoss := false, receiver := .between false } } t)

/-- A loss of ring order, with the engine RUNNING: a sequence fault (a frame of unexpected type, a SYNC frame, a REPLY
that is not the oldest record's, a COMMAND or SWITCH frame that is not the oldest record's own or not of the loop
state's kind), line loss, or the oldest record's reply timeout, each counted but for line loss. In OPEN or DRAINING it
takes the loop to QUIET with an empty window, a quiet timer of twice the reply timeout and a recovery counted; from
DRAINING the loop goes on to SWITCHING afterwards, from OPEN to SYNCING. In SWITCHING it forgets the SWITCH, names its
station as timed out and enters SETTLING, with no recovery. In SYNCING, DOWN, QUIET and SETTLING none of them has an
effect beyond the line-loss latch, and line loss with the latch set has none (R54, R57, R58, R59, R60, R84; that an
expiry acts whenever the deadline runs is log entry 2, that a returned frame is compared in ack and ready too, so that
a difference there alone is a sequence fault, log entry 13, and the receiver's place after line loss or a frame log
entry 26). -/
def Obligations.LostOrderStartsRecovery : Prop :=
  ∀ (s : State) (c : Instr) (faults timeouts : Word) (latch : Bool) (place : Framing), s.live = true →
    s.engine.state = .running →
    let faulty := faults = satInc s.loop.stats.sequenceFaults ∧ timeouts = s.loop.stats.replyTimeouts ∧ latch = false ∧
      place = .between false
    (c = .unexpectedTypeFrame ∧ faulty) ∨ ((∃ pattern, c = .syncArrival pattern) ∧ faulty) ∨
    ((∃ seq st ack ready data, c = .replyArrival seq st ack ready data ∧
        ∀ r ∈ s.loop.window.head?, ¬ (r.sequence = seq ∧ r.frame.station = st)) ∧ faulty) ∨
    ((∃ f : LoopFrame, c = .frameReturned f ∧ (f.type = 1 ∨ f.type = 5) ∧
        ((∀ r ∈ s.loop.window.head?, r.frame ≠ f) ∨ (f.type = 5 ↔ s.loop.state ≠ .switching))) ∧ faulty) ∨
    (c = .lineLoss ∧ s.loop.lineLoss = false ∧ faults = s.loop.stats.sequenceFaults ∧
      timeouts = s.loop.stats.replyTimeouts ∧ latch = true ∧ place = .lost 0 0) ∨
    (c = .replyTimeout ∧ (∃ r rest, s.loop.window = r :: rest ∧ r.deadline.isSome = true) ∧
      faults = s.loop.stats.sequenceFaults ∧ timeouts = satInc s.loop.stats.replyTimeouts ∧ latch = s.loop.lineLoss ∧
      place = s.loop.receiver) →
    let counted : LoopPort := { s.loop with
      lineLoss := latch, receiver := place,
      stats := { s.loop.stats with sequenceFaults := faults, replyTimeouts := timeouts } }
    (s.loop.state = .opened ∨ s.loop.state = .draining → ∃ t, exec c s = .next t ∧
      t.loop.state = .quiet ∧ t.loop.window = [] ∧ t.loop.quietTimer = some (2 * s.engine.config.replyTimeout) ∧
      t.loop.afterQuiet = (if s.loop.state = .draining then .switching else .syncing) ∧
      Settles { s with loop := { counted with
        state := .quiet, window := [],
        stats := { counted.stats with recoveries := satInc s.loop.stats.recoveries } } } t) ∧
    (∀ x, s.loop.state = .switching → s.loop.op = some (.reconfigure x) → s.released = [] → s.intake.pendingList = [] →
      ∃ t, exec c s = .next t ∧ Wakes { s with loop := { counted with
        state := .settling, window := [], sendDue := false, settleTimer := some s.engine.config.settleInterval,
        op := some (.reconfigure { x with timedOut := x.current }) } } t) ∧
    (s.calm = true → (∀ pattern, c ≠ .syncArrival pattern) →
      s.loop.state = .syncing ∨ s.loop.state = .down ∨ s.loop.state = .quiet ∨ s.loop.state = .settling →
      ∃ t, exec c s = .next t ∧ Wakes { s with loop := { s.loop with lineLoss := latch, receiver := place } } t) ∧
    (s.calm = true → s.loop.lineLoss = true → ∃ t, exec .lineLoss s = .next t ∧ Wakes s t)

/-- The Loop Port's timers. The quiet timer in QUIET and the settle timer lead to SYNCING, whose first SYNC frame is
sent or, the transmitter busy, due; after a DRAINING the quiet timer leads to SWITCHING and the SWITCH of the lowest
listed station. The SYNC timer leads to a quiet interval of twice the reply timeout before the next attempt, or after
the third to DOWN: every cadence that is not IDLE is told (log entry 14), a loop operation completes LOOP DOWN, and a
RUN waiting to send fails with LOOP DOWN, here the only context that waits. The end of the quiet interval sends the
next attempt's SYNC frame (R44, R61, R62, R64, R66, R82, R85; log entries 12, 21). A timer that does not run changes
nothing (log entry 2). -/
def Obligations.LoopTimersLeadOn : Prop :=
  ∀ s : State, s.live = true → s.engine.state = .running → s.calm = true →
    let l := s.loop
    let stats : Stats := { l.stats with framesSent := satInc l.stats.framesSent }
    let syncing : LoopPort := { l with
      state := .syncing, window := [], sequence := 0, attempt := 1, settleTimer := none, quietTimer := none,
      syncTimer := none, syncWaits := true, sendDue := true,
      afterQuiet := if l.state = .quiet then .syncing else l.afterQuiet }
    let down : LoopPort := { l with
      state := .down, syncWaits := false, sendDue := false, syncTimer := none, quietTimer := none, op := none }
    let sends := fun (c : Instr) (l' : LoopPort) (f : LoopFrame) => ∃ t u, exec c s = .next t ∧ Wakes u t ∧
      (l.transmitting = none → u = { s with
        loop := { l' with sendDue := false, transmitting := some f, stats },
        link := { s.link with issued := s.link.issued ++ [.frame f] } }) ∧
      (l.transmitting ≠ none → u = { s with loop := l' })
    let downs := fun v : State => ∃ t u, exec .syncTimerExpiry s = .next t ∧ Wakes u t ∧
      (∀ n, u.cad n = { s.cad n with downNotice := (s.cad n).downNotice || (s.cad n).state != .idle }) ∧
      { u with cadences := s.cadences } = { v with loop := down }
    (l.state = .quiet → l.quietTimer.isSome = true → l.afterQuiet = .syncing →
      sends .quietTimerExpiry syncing (syncFrame 1)) ∧
    (∀ (x : Reconfigure) (a : Nat), l.state = .quiet → l.quietTimer.isSome = true → l.afterQuiet = .switching →
      l.window = [] → l.op = some (.reconfigure x) → 1 ≤ a → a ≤ 40 →
      x.bypass.getLsbD a = true ∨ x.restore.getLsbD a = true →
      (∀ k, 1 ≤ k → k < a → x.bypass.getLsbD k = false ∧ x.restore.getLsbD k = false) →
      ¬ (x.bypass.getLsbD a = true ∧ (s.station a).state = .bypassed) →
      ∃ t, exec .quietTimerExpiry s = .next t ∧
        Wakes ({ s with loop := { l with quietTimer := none, afterQuiet := .syncing } }.switchSent
          { x with current := a, retries := s.engine.config.retryLimit, resent := false }) t) ∧
    (l.state = .settling → l.settleTimer.isSome = true → sends .settleTimerExpiry syncing (syncFrame 1)) ∧
    (l.state = .syncing → l.syncWaits = false → l.quietTimer.isSome = true →
      sends .syncQuietExpiry
        { l with attempt := l.attempt + 1, syncWaits := true, sendDue := true, quietTimer := none, syncTimer := none }
        (syncFrame (l.attempt + 1))) ∧
    (l.state = .syncing → l.syncWaits = true → l.syncTimer.isSome = true →
      (l.attempt < 3 → ∃ t, exec .syncTimerExpiry s = .next t ∧
        Wakes { s with loop := { l with syncWaits := false, sendDue := false, syncTimer := none,
                                        quietTimer := some (2 * s.engine.config.replyTimeout) } } t) ∧
      (3 ≤ l.attempt → (∀ i, (s.ctx i).waitsToSend = false) →
        (l.op = none → downs s) ∧
        (∀ j z, l.op = some (.restart j) → s.slot j = some z → (∀ i, (s.ctx i).state ≠ .checking) →
          downs (s.finished j z { result := 18, countA := BitVec.ofNat 32 l.attempt })) ∧
        (∀ x z, l.op = some (.reconfigure x) → s.slot x.slot = some z → (∀ i, (s.ctx i).state ≠ .checking) →
          downs (s.finished x.slot z
            { result := 18, station := x.timedOut, countA := BitVec.ofNat 32 x.sent,
              countB := BitVec.ofNat 32 (x.outcomes.toList.filter fun o => o == .switched).length } 0x20
            (x.outcomes.toList.flatMap fun o => le 1 o.code)))) ∧
      (∀ i z, 3 ≤ l.attempt → l.op = none → (s.ctx i).waitsToSend = true → (∀ j, j ≠ i → (s.ctx j).waitsToSend = false) →
        (s.ctx i).job = .run → (s.ctx i).cancel = none → s.slot (s.ctx i).owner = some z → s.intake.pendingList = [] →
        let c := s.ctx i
        ∃ c', c'.state = .idle ∧
          downs { s.finished c.owner z
              { result := 14, stepError := 7, station := c.elem.station.toNat, stepIndex := c.step,
                countA := BitVec.ofNat 32 c.entries, countB := BitVec.ofNat 32 c.words } 0x20
              (le 4 c.shortSteps ++ le 4 c.continued ++ le 4 c.lmax ++ le 4 c.wmax) with
            contexts := s.contexts.set i c', store := { s.store with holds := s.store.holds.set i none } })) ∧
    (l.state ≠ .quiet ∨ l.quietTimer = none → ∃ t, exec .quietTimerExpiry s = .next t ∧ Wakes s t) ∧
    (l.state ≠ .settling ∨ l.settleTimer = none → ∃ t, exec .settleTimerExpiry s = .next t ∧ Wakes s t) ∧
    (l.state ≠ .syncing ∨ l.syncWaits = false ∨ l.syncTimer = none →
      ∃ t, exec .syncTimerExpiry s = .next t ∧ Wakes s t) ∧
    (l.state ≠ .syncing ∨ l.syncWaits = true ∨ l.quietTimer = none →
      ∃ t, exec .syncQuietExpiry s = .next t ∧ Wakes s t)

/-! ### Cadences (chapter 5) -/

/-- A trigger: the timer is set for the next period; a WAITING cadence with room for a run starts one, with the next
run sequence, here a program that begins with an EXCHANGE step that takes no input, whose context is granted or waits;
without room it is a space miss, and a RUNNING one an overlap miss, each counted; the miss that reaches a limit that
is not 0 stops the cadence MISSED, a WAITING one at IDLE with its START frame STOPPED, a RUNNING one, here awaiting a
reply, STOPPING with its context flagged; a STOPPING cadence ignores the trigger. A timer that does not run changes
nothing (R20, R24, R50, R92, R93, R94, R95, R103, R105; log entries 2, 21). -/
def Obligations.TriggerStartsRunOrCountsMiss : Prop :=
  ∀ (s : State) (n : Fin 8), s.live = true → s.calm = true →
    let c := s.cad n
    let next : Timer := some (c.period.toNat * 50)
    let room := c.ringSize.toNat - (c.p - c.c).toNat
    (c.trigger.isSome = true →
      (∀ e, c.state = .waiting → c.lmax.toNat ≤ room →
        fetchStep s.store.steps c.programStart.toNat = some (.exchange e) → e.access.isInput = false →
        s.loop.state ≠ .down → (s.canGrant = true → (s.station e.station.toNat).state ≠ .bypassed) →
        ∃ t u, exec (.cadenceTrigger n) s = .next t ∧ Wakes (u.offered (contextOf n)) t ∧
          u = { s with
            cadences := s.cadences.set n { c with
              trigger := next, state := .running, runSequence := c.runSequence + 1, runsStarted := satInc c.runsStarted,
              consecutive := 0 },
            contexts := s.contexts.set n.val { Context.zero with
              state := .issuing, job := .cadence, owner := Fin.ofNat 40 n.val, runSequence := c.runSequence + 1,
              step := c.programStart.toNat, elem := e, remaining := 1, element := 0,
              retries := s.engine.config.retryLimit } }) ∧
      (c.missLimit = 0 ∨ satInc c.consecutive ≠ c.missLimit.setWidth 32 →
        (c.state = .waiting → room < c.lmax.toNat → ∃ t, exec (.cadenceTrigger n) s = .next t ∧
          Wakes { s with cadences := s.cadences.set n { c with
            trigger := next, consecutive := satInc c.consecutive, spaceMisses := satInc c.spaceMisses } } t) ∧
        (c.state = .running → ∃ t, exec (.cadenceTrigger n) s = .next t ∧
          Wakes { s with cadences := s.cadences.set n { c with
            trigger := next, consecutive := satInc c.consecutive, overlapMisses := satInc c.overlapMisses } } t)) ∧
      (c.missLimit ≠ 0 → satInc c.consecutive = c.missLimit.setWidth 32 →
        (∀ z, c.state = .waiting → room < c.lmax.toNat → s.slot c.startSlot = some z →
          ∃ t, exec (.cadenceTrigger n) s = .next t ∧
            Wakes { s.finished c.startSlot z
                { result := 16, stepError := 2, stepIndex := c.programStart.toNat, countA := c.p, countB := c.runsStarted }
                0x20 (le32 c.c ++ le32 c.overlapMisses ++ le32 (satInc c.spaceMisses) ++ le32 c.runsFailed ++
                  le32 c.runSequence ++ le32 c.lmax) with
              cadences := s.cadences.set n { c with
                trigger := none, consecutive := satInc c.consecutive, spaceMisses := satInc c.spaceMisses, state := .idle,
                reason := .missed, owed := false },
              store := { s.store with holds := s.store.holds.set n.val none } } t) ∧
        (c.state = .running → (s.ctx (contextOf n)).state = .awaitingReply → (s.ctx (contextOf n)).cancel = none →
          ∃ t, exec (.cadenceTrigger n) s = .next t ∧
            Wakes { s with
              cadences := s.cadences.set n { c with
                trigger := next, consecutive := satInc c.consecutive, overlapMisses := satInc c.overlapMisses,
                state := .stopping, reason := .missed },
              contexts := s.contexts.set n.val { s.ctx (contextOf n) with cancel := some .stop } } t)) ∧
      (c.state = .stopping → ∃ t, exec (.cadenceTrigger n) s = .next t ∧
        Wakes { s with cadences := s.cadences.set n { c with trigger := next } } t)) ∧
    (c.trigger = none → ∃ t, exec (.cadenceTrigger n) s = .next t ∧ Wakes s t)

/-- The Cadence Unit takes the news of DOWN: a WAITING cadence told of it goes to IDLE with reason LOOP DOWN, its hold
removed and its START frame completed STOPPED; with no cadence told, nothing changes (R64, R105, R106; log entry 14; log
entry 21). -/
def Obligations.LoopDownStopsCadence : Prop :=
  ∀ (s : State) (n : Fin 8), s.live = true → s.calm = true → (∀ m, m ≠ n → (s.cad m).downNotice = false) →
    let c := s.cad n
    (c.downNotice = false → ∃ t, exec .cadenceLoopDownStop s = .next t ∧ Wakes s t) ∧
    (∀ j z, c.downNotice = true → c.state = .waiting → c.startSlot = j → s.slot j = some z →
      ∃ t, exec .cadenceLoopDownStop s = .next t ∧
        Wakes { s.finished j z
            { result := 16, stepError := 4, stepIndex := c.programStart.toNat, countA := c.p, countB := c.runsStarted }
            0x20 (le32 c.c ++ le32 c.overlapMisses ++ le32 c.spaceMisses ++ le32 c.runsFailed ++
              le32 c.runSequence ++ le32 c.lmax) with
          cadences := s.cadences.set n
            { c with state := .idle, reason := .loopDown, trigger := none, owed := false, downNotice := false },
          store := { s.store with holds := s.store.holds.set n.val none } } t) ∧
    (c.downNotice = true → c.state = .running → (s.ctx (contextOf n)).state = .awaitingReply →
      (s.ctx (contextOf n)).cancel = none → ∃ t, exec .cadenceLoopDownStop s = .next t ∧
        Wakes { s with
          cadences := s.cadences.set n { c with state := .stopping, reason := .loopDown, downNotice := false },
          contexts := s.contexts.set n.val { s.ctx (contextOf n) with cancel := some .stop } } t)
end

