-- ==== Sys2Proof/Laws/State.lean ====
section
/-! SUPPORT. One lemma per field per update of the state's operations, each true by `rfl`, so that no later proof unfolds
a record update. -/

namespace Sys2Proof.Machine

open Sys2Proof

@[simp] theorem State.setCtx_pending (s : State) (i : CtxId) (c : Context) : (s.setCtx i c).pending = s.pending := rfl
@[simp] theorem State.setCtx_engine (s : State) (i : CtxId) (c : Context) : (s.setCtx i c).engine = s.engine := rfl
@[simp] theorem State.setCtx_store (s : State) (i : CtxId) (c : Context) : (s.setCtx i c).store = s.store := rfl
@[simp] theorem State.setCtx_contexts (s : State) (i : CtxId) (c : Context) : (s.setCtx i c).contexts = s.contexts.set i c := rfl
@[simp] theorem State.setCtx_loop (s : State) (i : CtxId) (c : Context) : (s.setCtx i c).loop = s.loop := rfl
@[simp] theorem State.setCtx_stations (s : State) (i : CtxId) (c : Context) : (s.setCtx i c).stations = s.stations := rfl
@[simp] theorem State.setCtx_cadences (s : State) (i : CtxId) (c : Context) : (s.setCtx i c).cadences = s.cadences := rfl
@[simp] theorem State.setCtx_attention (s : State) (i : CtxId) (c : Context) : (s.setCtx i c).attention = s.attention := rfl
@[simp] theorem State.setCtx_notice (s : State) (i : CtxId) (c : Context) : (s.setCtx i c).notice = s.notice := rfl
@[simp] theorem State.setCtx_queues (s : State) (i : CtxId) (c : Context) : (s.setCtx i c).queues = s.queues := rfl
@[simp] theorem State.setCtx_intake (s : State) (i : CtxId) (c : Context) : (s.setCtx i c).intake = s.intake := rfl
@[simp] theorem State.setCtx_link (s : State) (i : CtxId) (c : Context) : (s.setCtx i c).link = s.link := rfl
@[simp] theorem State.setCtx_pins (s : State) (i : CtxId) (c : Context) : (s.setCtx i c).pins = s.pins := rfl
@[simp] theorem State.setCtx_choices (s : State) (i : CtxId) (c : Context) : (s.setCtx i c).choices = s.choices := rfl

@[simp] theorem State.setCad_pending (s : State) (n : Fin 8) (c : Cadence) : (s.setCad n c).pending = s.pending := rfl
@[simp] theorem State.setCad_engine (s : State) (n : Fin 8) (c : Cadence) : (s.setCad n c).engine = s.engine := rfl
@[simp] theorem State.setCad_store (s : State) (n : Fin 8) (c : Cadence) : (s.setCad n c).store = s.store := rfl
@[simp] theorem State.setCad_contexts (s : State) (n : Fin 8) (c : Cadence) : (s.setCad n c).contexts = s.contexts := rfl
@[simp] theorem State.setCad_loop (s : State) (n : Fin 8) (c : Cadence) : (s.setCad n c).loop = s.loop := rfl
@[simp] theorem State.setCad_stations (s : State) (n : Fin 8) (c : Cadence) : (s.setCad n c).stations = s.stations := rfl
@[simp] theorem State.setCad_cadences (s : State) (n : Fin 8) (c : Cadence) : (s.setCad n c).cadences = s.cadences.set n c := rfl
@[simp] theorem State.setCad_attention (s : State) (n : Fin 8) (c : Cadence) : (s.setCad n c).attention = s.attention := rfl
@[simp] theorem State.setCad_notice (s : State) (n : Fin 8) (c : Cadence) : (s.setCad n c).notice = s.notice := rfl
@[simp] theorem State.setCad_queues (s : State) (n : Fin 8) (c : Cadence) : (s.setCad n c).queues = s.queues := rfl
@[simp] theorem State.setCad_intake (s : State) (n : Fin 8) (c : Cadence) : (s.setCad n c).intake = s.intake := rfl
@[simp] theorem State.setCad_link (s : State) (n : Fin 8) (c : Cadence) : (s.setCad n c).link = s.link := rfl
@[simp] theorem State.setCad_pins (s : State) (n : Fin 8) (c : Cadence) : (s.setCad n c).pins = s.pins := rfl
@[simp] theorem State.setCad_choices (s : State) (n : Fin 8) (c : Cadence) : (s.setCad n c).choices = s.choices := rfl

@[simp] theorem State.setSlot_pending (s : State) (i : Fin 40) (x : Option Slot) : (s.setSlot i x).pending = s.pending := rfl
@[simp] theorem State.setSlot_engine (s : State) (i : Fin 40) (x : Option Slot) : (s.setSlot i x).engine = s.engine := rfl
@[simp] theorem State.setSlot_store (s : State) (i : Fin 40) (x : Option Slot) : (s.setSlot i x).store = s.store := rfl
@[simp] theorem State.setSlot_contexts (s : State) (i : Fin 40) (x : Option Slot) : (s.setSlot i x).contexts = s.contexts := rfl
@[simp] theorem State.setSlot_loop (s : State) (i : Fin 40) (x : Option Slot) : (s.setSlot i x).loop = s.loop := rfl
@[simp] theorem State.setSlot_stations (s : State) (i : Fin 40) (x : Option Slot) : (s.setSlot i x).stations = s.stations := rfl
@[simp] theorem State.setSlot_cadences (s : State) (i : Fin 40) (x : Option Slot) : (s.setSlot i x).cadences = s.cadences := rfl
@[simp] theorem State.setSlot_attention (s : State) (i : Fin 40) (x : Option Slot) : (s.setSlot i x).attention = s.attention := rfl
@[simp] theorem State.setSlot_notice (s : State) (i : Fin 40) (x : Option Slot) : (s.setSlot i x).notice = s.notice := rfl
@[simp] theorem State.setSlot_queues (s : State) (i : Fin 40) (x : Option Slot) : (s.setSlot i x).queues = s.queues := rfl
@[simp] theorem State.setSlot_intake (s : State) (i : Fin 40) (x : Option Slot) : (s.setSlot i x).intake = { s.intake with custody := s.intake.custody.set i x } := rfl
@[simp] theorem State.setSlot_link (s : State) (i : Fin 40) (x : Option Slot) : (s.setSlot i x).link = s.link := rfl
@[simp] theorem State.setSlot_pins (s : State) (i : Fin 40) (x : Option Slot) : (s.setSlot i x).pins = s.pins := rfl
@[simp] theorem State.setSlot_choices (s : State) (i : Fin 40) (x : Option Slot) : (s.setSlot i x).choices = s.choices := rfl

@[simp] theorem State.setLoop_pending (s : State) (f : LoopPort → LoopPort) : (s.setLoop f).pending = s.pending := rfl
@[simp] theorem State.setLoop_engine (s : State) (f : LoopPort → LoopPort) : (s.setLoop f).engine = s.engine := rfl
@[simp] theorem State.setLoop_store (s : State) (f : LoopPort → LoopPort) : (s.setLoop f).store = s.store := rfl
@[simp] theorem State.setLoop_contexts (s : State) (f : LoopPort → LoopPort) : (s.setLoop f).contexts = s.contexts := rfl
@[simp] theorem State.setLoop_loop (s : State) (f : LoopPort → LoopPort) : (s.setLoop f).loop = f s.loop := rfl
@[simp] theorem State.setLoop_stations (s : State) (f : LoopPort → LoopPort) : (s.setLoop f).stations = s.stations := rfl
@[simp] theorem State.setLoop_cadences (s : State) (f : LoopPort → LoopPort) : (s.setLoop f).cadences = s.cadences := rfl
@[simp] theorem State.setLoop_attention (s : State) (f : LoopPort → LoopPort) : (s.setLoop f).attention = s.attention := rfl
@[simp] theorem State.setLoop_notice (s : State) (f : LoopPort → LoopPort) : (s.setLoop f).notice = s.notice := rfl
@[simp] theorem State.setLoop_queues (s : State) (f : LoopPort → LoopPort) : (s.setLoop f).queues = s.queues := rfl
@[simp] theorem State.setLoop_intake (s : State) (f : LoopPort → LoopPort) : (s.setLoop f).intake = s.intake := rfl
@[simp] theorem State.setLoop_link (s : State) (f : LoopPort → LoopPort) : (s.setLoop f).link = s.link := rfl
@[simp] theorem State.setLoop_pins (s : State) (f : LoopPort → LoopPort) : (s.setLoop f).pins = s.pins := rfl
@[simp] theorem State.setLoop_choices (s : State) (f : LoopPort → LoopPort) : (s.setLoop f).choices = s.choices := rfl

@[simp] theorem State.setIntake_pending (s : State) (f : Intake → Intake) : (s.setIntake f).pending = s.pending := rfl
@[simp] theorem State.setIntake_engine (s : State) (f : Intake → Intake) : (s.setIntake f).engine = s.engine := rfl
@[simp] theorem State.setIntake_store (s : State) (f : Intake → Intake) : (s.setIntake f).store = s.store := rfl
@[simp] theorem State.setIntake_contexts (s : State) (f : Intake → Intake) : (s.setIntake f).contexts = s.contexts := rfl
@[simp] theorem State.setIntake_loop (s : State) (f : Intake → Intake) : (s.setIntake f).loop = s.loop := rfl
@[simp] theorem State.setIntake_stations (s : State) (f : Intake → Intake) : (s.setIntake f).stations = s.stations := rfl
@[simp] theorem State.setIntake_cadences (s : State) (f : Intake → Intake) : (s.setIntake f).cadences = s.cadences := rfl
@[simp] theorem State.setIntake_attention (s : State) (f : Intake → Intake) : (s.setIntake f).attention = s.attention := rfl
@[simp] theorem State.setIntake_notice (s : State) (f : Intake → Intake) : (s.setIntake f).notice = s.notice := rfl
@[simp] theorem State.setIntake_queues (s : State) (f : Intake → Intake) : (s.setIntake f).queues = s.queues := rfl
@[simp] theorem State.setIntake_intake (s : State) (f : Intake → Intake) : (s.setIntake f).intake = f s.intake := rfl
@[simp] theorem State.setIntake_link (s : State) (f : Intake → Intake) : (s.setIntake f).link = s.link := rfl
@[simp] theorem State.setIntake_pins (s : State) (f : Intake → Intake) : (s.setIntake f).pins = s.pins := rfl
@[simp] theorem State.setIntake_choices (s : State) (f : Intake → Intake) : (s.setIntake f).choices = s.choices := rfl

@[simp] theorem State.setNotice_pending (s : State) (f : NoticeEngine → NoticeEngine) : (s.setNotice f).pending = s.pending := rfl
@[simp] theorem State.setNotice_engine (s : State) (f : NoticeEngine → NoticeEngine) : (s.setNotice f).engine = s.engine := rfl
@[simp] theorem State.setNotice_store (s : State) (f : NoticeEngine → NoticeEngine) : (s.setNotice f).store = s.store := rfl
@[simp] theorem State.setNotice_contexts (s : State) (f : NoticeEngine → NoticeEngine) : (s.setNotice f).contexts = s.contexts := rfl
@[simp] theorem State.setNotice_loop (s : State) (f : NoticeEngine → NoticeEngine) : (s.setNotice f).loop = s.loop := rfl
@[simp] theorem State.setNotice_stations (s : State) (f : NoticeEngine → NoticeEngine) : (s.setNotice f).stations = s.stations := rfl
@[simp] theorem State.setNotice_cadences (s : State) (f : NoticeEngine → NoticeEngine) : (s.setNotice f).cadences = s.cadences := rfl
@[simp] theorem State.setNotice_attention (s : State) (f : NoticeEngine → NoticeEngine) : (s.setNotice f).attention = s.attention := rfl
@[simp] theorem State.setNotice_notice (s : State) (f : NoticeEngine → NoticeEngine) : (s.setNotice f).notice = f s.notice := rfl
@[simp] theorem State.setNotice_queues (s : State) (f : NoticeEngine → NoticeEngine) : (s.setNotice f).queues = s.queues := rfl
@[simp] theorem State.setNotice_intake (s : State) (f : NoticeEngine → NoticeEngine) : (s.setNotice f).intake = s.intake := rfl
@[simp] theorem State.setNotice_link (s : State) (f : NoticeEngine → NoticeEngine) : (s.setNotice f).link = s.link := rfl
@[simp] theorem State.setNotice_pins (s : State) (f : NoticeEngine → NoticeEngine) : (s.setNotice f).pins = s.pins := rfl
@[simp] theorem State.setNotice_choices (s : State) (f : NoticeEngine → NoticeEngine) : (s.setNotice f).choices = s.choices := rfl

@[simp] theorem State.setOp_pending (s : State) (q : Queue) (o : Option QueueOp) : (s.setOp q o).pending = s.pending := rfl
@[simp] theorem State.setOp_engine (s : State) (q : Queue) (o : Option QueueOp) : (s.setOp q o).engine = s.engine := rfl
@[simp] theorem State.setOp_store (s : State) (q : Queue) (o : Option QueueOp) : (s.setOp q o).store = s.store := rfl
@[simp] theorem State.setOp_contexts (s : State) (q : Queue) (o : Option QueueOp) : (s.setOp q o).contexts = s.contexts := rfl
@[simp] theorem State.setOp_loop (s : State) (q : Queue) (o : Option QueueOp) : (s.setOp q o).loop = s.loop := rfl
@[simp] theorem State.setOp_stations (s : State) (q : Queue) (o : Option QueueOp) : (s.setOp q o).stations = s.stations := rfl
@[simp] theorem State.setOp_cadences (s : State) (q : Queue) (o : Option QueueOp) : (s.setOp q o).cadences = s.cadences := rfl
@[simp] theorem State.setOp_attention (s : State) (q : Queue) (o : Option QueueOp) : (s.setOp q o).attention = s.attention := rfl
@[simp] theorem State.setOp_notice (s : State) (q : Queue) (o : Option QueueOp) : (s.setOp q o).notice = s.notice := rfl
@[simp] theorem State.setOp_queues (s : State) (q : Queue) (o : Option QueueOp) : (s.setOp q o).queues = s.queues.setOp q o := rfl
@[simp] theorem State.setOp_intake (s : State) (q : Queue) (o : Option QueueOp) : (s.setOp q o).intake = s.intake := rfl
@[simp] theorem State.setOp_link (s : State) (q : Queue) (o : Option QueueOp) : (s.setOp q o).link = s.link := rfl
@[simp] theorem State.setOp_pins (s : State) (q : Queue) (o : Option QueueOp) : (s.setOp q o).pins = s.pins := rfl
@[simp] theorem State.setOp_choices (s : State) (q : Queue) (o : Option QueueOp) : (s.setOp q o).choices = s.choices := rfl

@[simp] theorem State.issue_pending (s : State) (x : Issue) : (s.issue x).pending = s.pending := rfl
@[simp] theorem State.issue_engine (s : State) (x : Issue) : (s.issue x).engine = s.engine := rfl
@[simp] theorem State.issue_store (s : State) (x : Issue) : (s.issue x).store = s.store := rfl
@[simp] theorem State.issue_contexts (s : State) (x : Issue) : (s.issue x).contexts = s.contexts := rfl
@[simp] theorem State.issue_loop (s : State) (x : Issue) : (s.issue x).loop = s.loop := rfl
@[simp] theorem State.issue_stations (s : State) (x : Issue) : (s.issue x).stations = s.stations := rfl
@[simp] theorem State.issue_cadences (s : State) (x : Issue) : (s.issue x).cadences = s.cadences := rfl
@[simp] theorem State.issue_attention (s : State) (x : Issue) : (s.issue x).attention = s.attention := rfl
@[simp] theorem State.issue_notice (s : State) (x : Issue) : (s.issue x).notice = s.notice := rfl
@[simp] theorem State.issue_queues (s : State) (x : Issue) : (s.issue x).queues = s.queues := rfl
@[simp] theorem State.issue_intake (s : State) (x : Issue) : (s.issue x).intake = s.intake := rfl
@[simp] theorem State.issue_link (s : State) (x : Issue) : (s.issue x).link = { s.link with issued := s.link.issued ++ [x] } := rfl
@[simp] theorem State.issue_pins (s : State) (x : Issue) : (s.issue x).pins = s.pins := rfl
@[simp] theorem State.issue_choices (s : State) (x : Issue) : (s.issue x).choices = s.choices := rfl

@[simp] theorem State.access_pending (s : State) (x : Nat → Issue) : (s.access x).pending = s.pending := rfl
@[simp] theorem State.access_engine (s : State) (x : Nat → Issue) : (s.access x).engine = s.engine := rfl
@[simp] theorem State.access_store (s : State) (x : Nat → Issue) : (s.access x).store = s.store := rfl
@[simp] theorem State.access_contexts (s : State) (x : Nat → Issue) : (s.access x).contexts = s.contexts := rfl
@[simp] theorem State.access_loop (s : State) (x : Nat → Issue) : (s.access x).loop = s.loop := rfl
@[simp] theorem State.access_stations (s : State) (x : Nat → Issue) : (s.access x).stations = s.stations := rfl
@[simp] theorem State.access_cadences (s : State) (x : Nat → Issue) : (s.access x).cadences = s.cadences := rfl
@[simp] theorem State.access_attention (s : State) (x : Nat → Issue) : (s.access x).attention = s.attention := rfl
@[simp] theorem State.access_notice (s : State) (x : Nat → Issue) : (s.access x).notice = s.notice := rfl
@[simp] theorem State.access_queues (s : State) (x : Nat → Issue) : (s.access x).queues = s.queues := rfl
@[simp] theorem State.access_intake (s : State) (x : Nat → Issue) : (s.access x).intake = s.intake := rfl
@[simp] theorem State.access_link (s : State) (x : Nat → Issue) : (s.access x).link = { nextAcc := s.link.nextAcc + 1, issued := s.link.issued ++ [x s.link.nextAcc] } := rfl
@[simp] theorem State.access_pins (s : State) (x : Nat → Issue) : (s.access x).pins = s.pins := rfl
@[simp] theorem State.access_choices (s : State) (x : Nat → Issue) : (s.access x).choices = s.choices := rfl

@[simp] theorem State.placeHold_pending (s : State) (i : CtxId) (h : Hold) : (s.placeHold i h).pending = s.pending := rfl
@[simp] theorem State.placeHold_engine (s : State) (i : CtxId) (h : Hold) : (s.placeHold i h).engine = s.engine := rfl
@[simp] theorem State.placeHold_store (s : State) (i : CtxId) (h : Hold) : (s.placeHold i h).store = { s.store with holds := s.store.holds.set i (some h) } := rfl
@[simp] theorem State.placeHold_contexts (s : State) (i : CtxId) (h : Hold) : (s.placeHold i h).contexts = s.contexts := rfl
@[simp] theorem State.placeHold_loop (s : State) (i : CtxId) (h : Hold) : (s.placeHold i h).loop = s.loop := rfl
@[simp] theorem State.placeHold_stations (s : State) (i : CtxId) (h : Hold) : (s.placeHold i h).stations = s.stations := rfl
@[simp] theorem State.placeHold_cadences (s : State) (i : CtxId) (h : Hold) : (s.placeHold i h).cadences = s.cadences := rfl
@[simp] theorem State.placeHold_attention (s : State) (i : CtxId) (h : Hold) : (s.placeHold i h).attention = s.attention := rfl
@[simp] theorem State.placeHold_notice (s : State) (i : CtxId) (h : Hold) : (s.placeHold i h).notice = s.notice := rfl
@[simp] theorem State.placeHold_queues (s : State) (i : CtxId) (h : Hold) : (s.placeHold i h).queues = s.queues := rfl
@[simp] theorem State.placeHold_intake (s : State) (i : CtxId) (h : Hold) : (s.placeHold i h).intake = s.intake := rfl
@[simp] theorem State.placeHold_link (s : State) (i : CtxId) (h : Hold) : (s.placeHold i h).link = s.link := rfl
@[simp] theorem State.placeHold_pins (s : State) (i : CtxId) (h : Hold) : (s.placeHold i h).pins = s.pins := rfl
@[simp] theorem State.placeHold_choices (s : State) (i : CtxId) (h : Hold) : (s.placeHold i h).choices = s.choices := rfl

@[simp] theorem State.dropHold_pending (s : State) (i : CtxId) : (s.dropHold i).pending = s.pending := rfl
@[simp] theorem State.dropHold_engine (s : State) (i : CtxId) : (s.dropHold i).engine = s.engine := rfl
@[simp] theorem State.dropHold_store (s : State) (i : CtxId) : (s.dropHold i).store = { s.store with holds := s.store.holds.set i none } := rfl
@[simp] theorem State.dropHold_contexts (s : State) (i : CtxId) : (s.dropHold i).contexts = s.contexts := rfl
@[simp] theorem State.dropHold_loop (s : State) (i : CtxId) : (s.dropHold i).loop = s.loop := rfl
@[simp] theorem State.dropHold_stations (s : State) (i : CtxId) : (s.dropHold i).stations = s.stations := rfl
@[simp] theorem State.dropHold_cadences (s : State) (i : CtxId) : (s.dropHold i).cadences = s.cadences := rfl
@[simp] theorem State.dropHold_attention (s : State) (i : CtxId) : (s.dropHold i).attention = s.attention := rfl
@[simp] theorem State.dropHold_notice (s : State) (i : CtxId) : (s.dropHold i).notice = s.notice := rfl
@[simp] theorem State.dropHold_queues (s : State) (i : CtxId) : (s.dropHold i).queues = s.queues := rfl
@[simp] theorem State.dropHold_intake (s : State) (i : CtxId) : (s.dropHold i).intake = s.intake := rfl
@[simp] theorem State.dropHold_link (s : State) (i : CtxId) : (s.dropHold i).link = s.link := rfl
@[simp] theorem State.dropHold_pins (s : State) (i : CtxId) : (s.dropHold i).pins = s.pins := rfl
@[simp] theorem State.dropHold_choices (s : State) (i : CtxId) : (s.dropHold i).choices = s.choices := rfl

@[simp] theorem State.count_pending (s : State) (f : Stats → Stats) : (s.count f).pending = s.pending := rfl
@[simp] theorem State.count_engine (s : State) (f : Stats → Stats) : (s.count f).engine = s.engine := rfl
@[simp] theorem State.count_store (s : State) (f : Stats → Stats) : (s.count f).store = s.store := rfl
@[simp] theorem State.count_contexts (s : State) (f : Stats → Stats) : (s.count f).contexts = s.contexts := rfl
@[simp] theorem State.count_loop (s : State) (f : Stats → Stats) : (s.count f).loop = { s.loop with stats := f s.loop.stats } := rfl
@[simp] theorem State.count_stations (s : State) (f : Stats → Stats) : (s.count f).stations = s.stations := rfl
@[simp] theorem State.count_cadences (s : State) (f : Stats → Stats) : (s.count f).cadences = s.cadences := rfl
@[simp] theorem State.count_attention (s : State) (f : Stats → Stats) : (s.count f).attention = s.attention := rfl
@[simp] theorem State.count_notice (s : State) (f : Stats → Stats) : (s.count f).notice = s.notice := rfl
@[simp] theorem State.count_queues (s : State) (f : Stats → Stats) : (s.count f).queues = s.queues := rfl
@[simp] theorem State.count_intake (s : State) (f : Stats → Stats) : (s.count f).intake = s.intake := rfl
@[simp] theorem State.count_link (s : State) (f : Stats → Stats) : (s.count f).link = s.link := rfl
@[simp] theorem State.count_pins (s : State) (f : Stats → Stats) : (s.count f).pins = s.pins := rfl
@[simp] theorem State.count_choices (s : State) (f : Stats → Stats) : (s.count f).choices = s.choices := rfl

@[simp] theorem State.popOldest_pending (s : State) : (s.popOldest).pending = s.pending := rfl
@[simp] theorem State.popOldest_engine (s : State) : (s.popOldest).engine = s.engine := rfl
@[simp] theorem State.popOldest_store (s : State) : (s.popOldest).store = s.store := rfl
@[simp] theorem State.popOldest_contexts (s : State) : (s.popOldest).contexts = s.contexts := rfl
@[simp] theorem State.popOldest_loop (s : State) : (s.popOldest).loop = { s.loop with window := s.loop.window.tail } := rfl
@[simp] theorem State.popOldest_stations (s : State) : (s.popOldest).stations = s.stations := rfl
@[simp] theorem State.popOldest_cadences (s : State) : (s.popOldest).cadences = s.cadences := rfl
@[simp] theorem State.popOldest_attention (s : State) : (s.popOldest).attention = s.attention := rfl
@[simp] theorem State.popOldest_notice (s : State) : (s.popOldest).notice = s.notice := rfl
@[simp] theorem State.popOldest_queues (s : State) : (s.popOldest).queues = s.queues := rfl
@[simp] theorem State.popOldest_intake (s : State) : (s.popOldest).intake = s.intake := rfl
@[simp] theorem State.popOldest_link (s : State) : (s.popOldest).link = s.link := rfl
@[simp] theorem State.popOldest_pins (s : State) : (s.popOldest).pins = s.pins := rfl
@[simp] theorem State.popOldest_choices (s : State) : (s.popOldest).choices = s.choices := rfl

@[simp] theorem State.framed_pending (s : State) : (s.framed).pending = s.pending := rfl
@[simp] theorem State.framed_engine (s : State) : (s.framed).engine = s.engine := rfl
@[simp] theorem State.framed_store (s : State) : (s.framed).store = s.store := rfl
@[simp] theorem State.framed_contexts (s : State) : (s.framed).contexts = s.contexts := rfl
@[simp] theorem State.framed_loop (s : State) : (s.framed).loop = { s.loop with lineLoss := false, receiver := .between false } := rfl
@[simp] theorem State.framed_stations (s : State) : (s.framed).stations = s.stations := rfl
@[simp] theorem State.framed_cadences (s : State) : (s.framed).cadences = s.cadences := rfl
@[simp] theorem State.framed_attention (s : State) : (s.framed).attention = s.attention := rfl
@[simp] theorem State.framed_notice (s : State) : (s.framed).notice = s.notice := rfl
@[simp] theorem State.framed_queues (s : State) : (s.framed).queues = s.queues := rfl
@[simp] theorem State.framed_intake (s : State) : (s.framed).intake = s.intake := rfl
@[simp] theorem State.framed_link (s : State) : (s.framed).link = s.link := rfl
@[simp] theorem State.framed_pins (s : State) : (s.framed).pins = s.pins := rfl
@[simp] theorem State.framed_choices (s : State) : (s.framed).choices = s.choices := rfl

/-! ### Reading back what was written -/

@[simp] theorem State.ctx_setCtx_same (s : State) (i : CtxId) (c : Context) : (s.setCtx i c).ctx i = c := by
  simp [State.ctx]

theorem State.ctx_setCtx_other (s : State) (i j : CtxId) (c : Context) (h : i ≠ j) :
    (s.setCtx i c).ctx j = s.ctx j := by
  have : i.val ≠ j.val := fun e => h (Fin.ext e)
  simp [State.ctx, this]

@[simp] theorem State.cad_setCad_same (s : State) (n : Fin 8) (c : Cadence) : (s.setCad n c).cad n = c := by
  simp [State.cad]

theorem State.cad_setCad_other (s : State) (n m : Fin 8) (c : Cadence) (h : n ≠ m) :
    (s.setCad n c).cad m = s.cad m := by
  have : n.val ≠ m.val := fun e => h (Fin.ext e)
  simp [State.cad, this]

@[simp] theorem State.slot_setSlot_same (s : State) (i : Fin 40) (x : Option Slot) : (s.setSlot i x).slot i = x := by
  simp [State.slot]

theorem State.slot_setSlot_other (s : State) (i j : Fin 40) (x : Option Slot) (h : i ≠ j) :
    (s.setSlot i x).slot j = s.slot j := by
  have : i.val ≠ j.val := fun e => h (Fin.ext e)
  simp [State.slot, this]

@[simp] theorem QueueUnit.op_setOp_same (u : QueueUnit) (q : Queue) (o : Option QueueOp) : (u.setOp q o).op q = o := by
  cases q <;> rfl

theorem QueueUnit.op_setOp_other (u : QueueUnit) (q r : Queue) (o : Option QueueOp) (h : q ≠ r) :
    (u.setOp q o).op r = u.op r := by
  cases q <;> cases r <;> first | rfl | exact absurd rfl h

@[simp] theorem QueueUnit.lock_setOp (u : QueueUnit) (q : Queue) (o : Option QueueOp) : (u.setOp q o).lock = u.lock := by
  cases q <;> rfl

/-! ### Records that an update leaves -/

@[simp] theorem State.cad_setCtx (s : State) (i : CtxId) (c : Context) (m : Fin 8) : (s.setCtx i c).cad m = s.cad m := rfl
@[simp] theorem State.slot_setCtx (s : State) (i : CtxId) (c : Context) (k : Fin 40) : (s.setCtx i c).slot k = s.slot k := rfl
@[simp] theorem State.ctx_setCad (s : State) (n : Fin 8) (c : Cadence) (j : CtxId) : (s.setCad n c).ctx j = s.ctx j := rfl
@[simp] theorem State.slot_setCad (s : State) (n : Fin 8) (c : Cadence) (k : Fin 40) : (s.setCad n c).slot k = s.slot k := rfl
@[simp] theorem State.ctx_setSlot (s : State) (i : Fin 40) (x : Option Slot) (j : CtxId) : (s.setSlot i x).ctx j = s.ctx j := rfl
@[simp] theorem State.cad_setSlot (s : State) (i : Fin 40) (x : Option Slot) (m : Fin 8) : (s.setSlot i x).cad m = s.cad m := rfl
@[simp] theorem State.ctx_setLoop (s : State) (f : LoopPort → LoopPort) (j : CtxId) : (s.setLoop f).ctx j = s.ctx j := rfl
@[simp] theorem State.cad_setLoop (s : State) (f : LoopPort → LoopPort) (m : Fin 8) : (s.setLoop f).cad m = s.cad m := rfl
@[simp] theorem State.slot_setLoop (s : State) (f : LoopPort → LoopPort) (k : Fin 40) : (s.setLoop f).slot k = s.slot k := rfl
@[simp] theorem State.ctx_setNotice (s : State) (f : NoticeEngine → NoticeEngine) (j : CtxId) : (s.setNotice f).ctx j = s.ctx j := rfl
@[simp] theorem State.cad_setNotice (s : State) (f : NoticeEngine → NoticeEngine) (m : Fin 8) : (s.setNotice f).cad m = s.cad m := rfl
@[simp] theorem State.slot_setNotice (s : State) (f : NoticeEngine → NoticeEngine) (k : Fin 40) : (s.setNotice f).slot k = s.slot k := rfl
@[simp] theorem State.ctx_setOp (s : State) (q : Queue) (o : Option QueueOp) (j : CtxId) : (s.setOp q o).ctx j = s.ctx j := rfl
@[simp] theorem State.cad_setOp (s : State) (q : Queue) (o : Option QueueOp) (m : Fin 8) : (s.setOp q o).cad m = s.cad m := rfl
@[simp] theorem State.slot_setOp (s : State) (q : Queue) (o : Option QueueOp) (k : Fin 40) : (s.setOp q o).slot k = s.slot k := rfl
@[simp] theorem State.ctx_issue (s : State) (x : Issue) (j : CtxId) : (s.issue x).ctx j = s.ctx j := rfl
@[simp] theorem State.cad_issue (s : State) (x : Issue) (m : Fin 8) : (s.issue x).cad m = s.cad m := rfl
@[simp] theorem State.slot_issue (s : State) (x : Issue) (k : Fin 40) : (s.issue x).slot k = s.slot k := rfl
@[simp] theorem State.ctx_access (s : State) (x : Nat → Issue) (j : CtxId) : (s.access x).ctx j = s.ctx j := rfl
@[simp] theorem State.cad_access (s : State) (x : Nat → Issue) (m : Fin 8) : (s.access x).cad m = s.cad m := rfl
@[simp] theorem State.slot_access (s : State) (x : Nat → Issue) (k : Fin 40) : (s.access x).slot k = s.slot k := rfl
@[simp] theorem State.ctx_placeHold (s : State) (i : CtxId) (h : Hold) (j : CtxId) : (s.placeHold i h).ctx j = s.ctx j := rfl
@[simp] theorem State.cad_placeHold (s : State) (i : CtxId) (h : Hold) (m : Fin 8) : (s.placeHold i h).cad m = s.cad m := rfl
@[simp] theorem State.slot_placeHold (s : State) (i : CtxId) (h : Hold) (k : Fin 40) : (s.placeHold i h).slot k = s.slot k := rfl
@[simp] theorem State.ctx_dropHold (s : State) (i : CtxId) (j : CtxId) : (s.dropHold i).ctx j = s.ctx j := rfl
@[simp] theorem State.cad_dropHold (s : State) (i : CtxId) (m : Fin 8) : (s.dropHold i).cad m = s.cad m := rfl
@[simp] theorem State.slot_dropHold (s : State) (i : CtxId) (k : Fin 40) : (s.dropHold i).slot k = s.slot k := rfl
@[simp] theorem State.ctx_count (s : State) (f : Stats → Stats) (j : CtxId) : (s.count f).ctx j = s.ctx j := rfl
@[simp] theorem State.cad_count (s : State) (f : Stats → Stats) (m : Fin 8) : (s.count f).cad m = s.cad m := rfl
@[simp] theorem State.slot_count (s : State) (f : Stats → Stats) (k : Fin 40) : (s.count f).slot k = s.slot k := rfl
@[simp] theorem State.ctx_setIntake (s : State) (f : Intake → Intake) (j : CtxId) : (s.setIntake f).ctx j = s.ctx j := rfl
@[simp] theorem State.cad_setIntake (s : State) (f : Intake → Intake) (m : Fin 8) : (s.setIntake f).cad m = s.cad m := rfl
@[simp] theorem State.station_setCtx (s : State) (i : CtxId) (c : Context) (k : Nat) : (s.setCtx i c).station k = s.station k := rfl
@[simp] theorem State.station_setCad (s : State) (n : Fin 8) (c : Cadence) (k : Nat) : (s.setCad n c).station k = s.station k := rfl
@[simp] theorem State.station_setSlot (s : State) (i : Fin 40) (x : Option Slot) (k : Nat) : (s.setSlot i x).station k = s.station k := rfl
@[simp] theorem State.station_setLoop (s : State) (f : LoopPort → LoopPort) (k : Nat) : (s.setLoop f).station k = s.station k := rfl
@[simp] theorem State.station_setIntake (s : State) (f : Intake → Intake) (k : Nat) : (s.setIntake f).station k = s.station k := rfl
@[simp] theorem State.station_issue (s : State) (x : Issue) (k : Nat) : (s.issue x).station k = s.station k := rfl
@[simp] theorem State.station_access (s : State) (x : Nat → Issue) (k : Nat) : (s.access x).station k = s.station k := rfl
@[simp] theorem State.station_count (s : State) (f : Stats → Stats) (k : Nat) : (s.count f).station k = s.station k := rfl

end Sys2Proof.Machine
end

