-- ==== Sys2Proof/Laws/Frames.lean ====
section
/-! SUPPORT. What the operations of the contexts, cadences and custody leave unchanged: one relation, and one lemma per
operation. Provers cite these and unfold nothing. -/

namespace Sys2Proof.Machine

open Sys2Proof

/-- What carries over from `s` to `t` when contexts, cadences, custody and holds change: every other field, and the issue
log grows at its end. -/
structure Carries (s t : State) : Prop where
  pending : t.pending = s.pending
  engine : t.engine = s.engine
  steps : t.store.steps = s.store.steps
  load : t.store.load = s.store.load
  loop : t.loop = s.loop
  stations : t.stations = s.stations
  attention : t.attention = s.attention
  notice : t.notice = s.notice
  queues : t.queues = s.queues
  pins : t.pins = s.pins
  choices : t.choices = s.choices
  taker : t.intake.taker = s.intake.taker
  promptSeen : t.intake.promptSeen = s.intake.promptSeen
  pendingList : t.intake.pendingList = s.intake.pendingList
  posting : t.intake.posting = s.intake.posting
  issued : ∃ l, t.link.issued = s.link.issued ++ l ∧ ∀ y ∈ l, y.ofTurn = true
  nextAcc : s.link.nextAcc ≤ t.link.nextAcc

theorem Carries.refl (s : State) : Carries s s :=
  ⟨rfl, rfl, rfl, rfl, rfl, rfl, rfl, rfl, rfl, rfl, rfl, rfl, rfl, rfl, rfl, ⟨[], by simp, by simp⟩, le_refl _⟩

theorem Carries.trans {s t u : State} (h : Carries s t) (k : Carries t u) : Carries s u := by
  obtain ⟨l, hl, hl'⟩ := h.issued
  obtain ⟨m, hm, hm'⟩ := k.issued
  exact ⟨k.pending.trans h.pending, k.engine.trans h.engine, k.steps.trans h.steps, k.load.trans h.load,
    k.loop.trans h.loop, k.stations.trans h.stations, k.attention.trans h.attention, k.notice.trans h.notice,
    k.queues.trans h.queues, k.pins.trans h.pins, k.choices.trans h.choices, k.taker.trans h.taker,
    k.promptSeen.trans h.promptSeen, k.pendingList.trans h.pendingList, k.posting.trans h.posting,
    ⟨l ++ m, by rw [hm, hl, List.append_assoc], fun y e => (List.mem_append.1 e).elim (hl' y) (hm' y)⟩, h.nextAcc.trans k.nextAcc⟩

variable {s x : State}

theorem Carries.setCtx (h : Carries s x) (i : CtxId) (c : Context) : Carries s (x.setCtx i c) := { h with }

theorem Carries.setCad (h : Carries s x) (n : Fin 8) (c : Cadence) : Carries s (x.setCad n c) := { h with }

theorem Carries.setSlot (h : Carries s x) (i : Fin 40) (y : Option Slot) : Carries s (x.setSlot i y) := { h with }

theorem Carries.placeHold (h : Carries s x) (i : CtxId) (y : Hold) : Carries s (x.placeHold i y) := { h with }

theorem Carries.dropHold (h : Carries s x) (i : CtxId) : Carries s (x.dropHold i) := { h with }

theorem Carries.issue (h : Carries s x) (y : Issue) (k : y.ofTurn = true) : Carries s (x.issue y) :=
  { h with issued := h.issued.elim fun l hl => ⟨l ++ [y], by simp [hl.1], fun z e =>
      (List.mem_append.1 e).elim (hl.2 z) fun e => by rw [List.mem_singleton.1 e]; exact k⟩ }

theorem Carries.read (h : Carries s x) (a : Addr) (n : Nat) : Carries s (x.access fun acc => .read acc a n) :=
  { h with issued := h.issued.elim fun l hl => ⟨l ++ [.read x.link.nextAcc a n], by simp [hl.1], fun z e =>
             (List.mem_append.1 e).elim (hl.2 z) fun e => by rw [List.mem_singleton.1 e]; rfl⟩,
           nextAcc := h.nextAcc.trans (Nat.le_succ _) }

theorem Carries.post (h : Carries s x) (a : Addr) (b : List Byte) : Carries s (x.post a b) := by
  unfold State.post; split
  · exact h
  · exact h.issue _ rfl

theorem Carries.setSlotState (h : Carries s x) (i : Fin 40) (y : SlotState) : Carries s (x.setSlotState i y) := by
  unfold State.setSlotState; split
  · exact h.setSlot _ _
  · exact h

theorem Carries.markReady (h : Carries s x) (i : Fin 40) : Carries s (x.markReady i) := by
  unfold State.markReady; split
  · rename_i y _
    have k := h.setSlot i (some { y with state := .ready, readyNumber := x.intake.readyCounter })
    exact { k with }
  · exact h

theorem Carries.writeResult (h : Carries s x) (k : Nat) (d : DoneRecord) : Carries s (x.writeResult k d) :=
  (h.post _ _).post _ _

theorem Carries.finish (h : Carries s x) (i : Fin 40) (d : DoneRecord) (o : Nat) (b : List Byte) :
    Carries s (x.finish i d o b) := by
  unfold State.finish; split
  · exact ((h.writeResult _ _).post _ _).markReady _
  · exact h

theorem Carries.refuse (h : Carries s x) (i : Fin 40) (r : Result) : Carries s (x.refuse i r) := h.finish _ _ _ _

theorem Carries.cadenceIdle (h : Carries s x) (n : Fin 8) : Carries s (x.cadenceIdle n) :=
  ((h.setCad _ _).dropHold _).finish _ _ _ _

theorem Carries.reportRun (h : Carries s x) (n : Fin 8) : Carries s (x.reportRun n) := by
  unfold State.reportRun; dsimp only; split
  · exact h.setCad _ _
  · exact h.cadenceIdle _
  · exact h

theorem Carries.flagCancel (h : Carries s x) (i : CtxId) (c : CancelCause) : Carries s (x.flagCancel i c) :=
  h.setCtx _ _

theorem Carries.boundary (h : Carries s x) (n : Fin 8) : Carries s (x.boundary n) := by
  unfold State.boundary; dsimp only; split
  · split
    · exact (h.setCad _ _).flagCancel _ _
    · exact h
  · exact h.setCad _ _

theorem Carries.pushEntry (h : Carries s x) (n : Fin 8) (b : List Byte) : Carries s (x.pushEntry n b) := by
  unfold State.pushEntry; dsimp only; split
  · exact ((h.post _ _).setCad _ _).boundary _
  · exact (h.post _ _).setCad _ _

theorem Carries.writeEntry (h : Carries s x) (i : CtxId) (k : EntryKind) (st : BitVec 6) (e : Nat) (a r f : Bool)
    (d : Word) : Carries s (x.writeEntry i k st e a r f d) := by
  unfold State.writeEntry; dsimp only; split
  · exact (h.post _ _).setCtx _ _
  · split
    · exact (h.setCtx _ _).pushEntry _ _
    · exact h
  · exact h

theorem Carries.toIdle (h : Carries s x) (i : CtxId) : Carries s (x.toIdle i) := h.setCtx _ _

theorem Carries.completeRun (h : Carries s x) (i : CtxId) (r : Result) : Carries s (x.completeRun i r) :=
  ((h.finish _ _ _ _).dropHold _).toIdle _

theorem Carries.completeExchange (h : Carries s x) (i : CtxId) (r : Result) : Carries s (x.completeExchange i r) :=
  (h.finish _ _ _ _).toIdle _

theorem Carries.completeSurvey (h : Carries s x) (i : CtxId) (r : Result) : Carries s (x.completeSurvey i r) :=
  ((h.post _ _).finish _ _ _ _).toIdle _

theorem Carries.endCadenceRun (h : Carries s x) (i : CtxId) : Carries s (x.endCadenceRun i) := by
  unfold State.endCadenceRun; split
  · exact (h.toIdle _).reportRun _
  · exact h.toIdle _

theorem Carries.endCancelled (h : Carries s x) (i : CtxId) : Carries s (x.endCancelled i) := by
  unfold State.endCancelled; split
  · exact h.endCadenceRun _
  · exact h.completeRun _ _
  · exact h.completeExchange _ _
  · exact h.completeSurvey _ _
  · exact h.toIdle _

theorem Carries.countFailedRun (h : Carries s x) (i : CtxId) : Carries s (x.countFailedRun i) := by
  unfold State.countFailedRun; split
  · exact h.setCad _ _
  · exact h

theorem Carries.halt (h : Carries s x) (i : CtxId) (e : StepError) : Carries s (x.halt i e) := by
  unfold State.halt; dsimp only; split
  · exact (((h.setCtx _ _).writeEntry _ _ _ _ _ _ _ _).countFailedRun _).endCadenceRun _
  · exact (h.setCtx _ _).completeRun _ _
  · exact (h.setCtx _ _).completeExchange _ _
  · exact (h.setCtx _ _).completeSurvey _ _
  · exact (h.setCtx _ _).toIdle _

theorem Carries.beginElement (h : Carries s x) (i : CtxId) : Carries s (x.beginElement i) := by
  unfold State.beginElement; dsimp only; split
  · exact (h.setCtx _ _).halt _ _
  · split
    · exact ((h.setCtx _ _).read _ _).setCtx _ _
    · exact h.setCtx _ _

theorem Carries.endRun (h : Carries s x) (i : CtxId) : Carries s (x.endRun i) := by
  unfold State.endRun; split
  · exact h.endCadenceRun _
  · exact h.completeRun _ _

theorem Carries.beginStep (n : Nat) (i : CtxId) : ∀ {x : State}, Carries s x → Carries s (Machine.beginStep n i x) := by
  induction n with
  | zero => exact fun h => h
  | succ n ih =>
    intro x h
    unfold Machine.beginStep; dsimp only; split
    · exact h.endCancelled _
    · split
      · exact h
      · exact (h.setCtx _ _).beginElement _
      · exact (h.setCtx _ _).beginElement _
      · exact ih ((h.writeEntry _ _ _ _ _ _ _ _).setCtx _ _)
      · exact h.setCtx _ _
      · exact h.endRun _

theorem Carries.beginStepAt (h : Carries s x) (i : CtxId) : Carries s (x.beginStepAt i) := .beginStep _ _ h

theorem Carries.nextStep (h : Carries s x) (i : CtxId) : Carries s (x.nextStep i) := (h.setCtx _ _).beginStepAt _

theorem Carries.endElement (h : Carries s x) (i : CtxId) : Carries s (x.endElement i) := by
  unfold State.endElement; dsimp only; split
  · exact (h.setCtx _ _).endCancelled _
  · split
    · exact (h.setCtx _ _).beginElement _
    · exact (h.setCtx _ _).nextStep _

theorem Carries.stepError (h : Carries s x) (i : CtxId) (e : StepError) (a r : Bool) :
    Carries s (x.stepError i e a r) := by
  unfold State.stepError; dsimp only; split
  · split
    · exact ((h.setCtx _ _).writeEntry _ _ _ _ _ _ _ _).endElement _
    · exact (h.setCtx _ _).endElement _
  · exact h.halt _ _

theorem Carries.completeElement (h : Carries s x) (i : CtxId) (r : Bool) (d : Word) :
    Carries s (x.completeElement i r d) := by
  unfold State.completeElement; dsimp only; split
  · exact h.completeExchange _ _
  · split
    · exact (h.writeEntry _ _ _ _ _ _ _ _).endElement _
    · exact h.endElement _

theorem Carries.endShort (h : Carries s x) (i : CtxId) : Carries s (x.endShort i) := by
  unfold State.endShort; dsimp only; split
  · exact (h.setCtx _ _).completeExchange _ _
  · exact (h.setCtx _ _).nextStep _

theorem Carries.awaitReady (h : Carries s x) (i : CtxId) : Carries s (x.awaitReady i) := by
  unfold State.awaitReady; dsimp only; split
  · exact (h.setCtx _ _).stepError _ _ _ _
  · split
    · exact (h.setCtx _ _).endCancelled _
    · split <;> exact (h.setCtx _ _).setCtx _ _

theorem Carries.surveyWalk (n : Nat) (i : CtxId) :
    ∀ {a : Nat} {x : State}, Carries s x → Carries s (Machine.surveyWalk n i a x) := by
  induction n with
  | zero => exact fun h => h.completeSurvey _ _
  | succ n ih =>
    intro a x h
    unfold Machine.surveyWalk; dsimp only; split
    · exact h.completeSurvey _ _
    · split
      · exact ih (h.setCtx _ _)
      · exact (h.setCtx _ _).beginElement _

theorem Carries.surveyStart (h : Carries s x) (i : CtxId) : Carries s (x.surveyStart i) := .surveyWalk _ _ h

theorem Carries.surveyNext (h : Carries s x) (i : CtxId) : Carries s (x.surveyNext i) := by
  unfold State.surveyNext; split
  · exact h.endCancelled _
  · exact .surveyWalk _ _ h

theorem Carries.surveyCount (h : Carries s x) (i : CtxId) (f : SurveyCounts → SurveyCounts) :
    Carries s (x.surveyCount i f) := h.setCtx _ _

theorem Carries.lapse (h : Carries s x) (i : CtxId) : Carries s (x.lapse i) := by
  unfold State.lapse; split
  · exact (h.surveyCount _ _).surveyNext _
  · exact h.stepError _ _ _ _

theorem Carries.cancelCtx (h : Carries s x) (i : CtxId) (c : CancelCause) : Carries s (x.cancelCtx i c) := by
  unfold State.cancelCtx; dsimp only; split
  · exact h
  · split
    · exact h.flagCancel _ _
    · exact (h.flagCancel _ _).endCancelled _

theorem Carries.cadenceStop (h : Carries s x) (n : Fin 8) (r : StopReason) : Carries s (x.cadenceStop n r) := by
  unfold State.cadenceStop; dsimp only; split
  · exact (h.setCad _ _).cadenceIdle _
  · exact (h.setCad _ _).cancelCtx _ _
  · exact h

theorem Carries.runPrepass (h : Carries s x) (i : CtxId) : Carries s (x.runPrepass i) := by
  unfold State.runPrepass; dsimp only; split
  · exact (h.finish _ _ _ _).toIdle _
  · exact (h.finish _ _ _ _).toIdle _
  · split
    · exact (h.finish _ _ _ _).toIdle _
    · exact ((h.setCtx _ _).placeHold _ _).beginStepAt _

theorem Carries.startRequest (h : Carries s x) (i : CtxId) (k : Fin 40) : Carries s (x.startRequest i k) := by
  unfold State.startRequest; dsimp only; split
  · split
    · exact (h.setSlotState _ _).setCtx _ _
    · exact ((h.setSlotState _ _).setCtx _ _).runPrepass _
  · split
    · split
      · exact ((h.setSlotState _ _).setCtx _ _).beginElement _
      · exact h.setSlotState _ _
    · split
      · split
        · exact (h.setSlotState _ _).setCtx _ _
        · exact ((h.setSlotState _ _).setCtx _ _).surveyStart _
      · exact h.setSlotState _ _

theorem Carries.startCadenceRun (h : Carries s x) (n : Fin 8) : Carries s (x.startCadenceRun n) :=
  (h.setCtx _ _).beginStepAt _

theorem Carries.miss (h : Carries s x) (n : Fin 8) (o : Bool) : Carries s (x.miss n o) := by
  unfold State.miss; dsimp only; split
  · exact (h.setCad _ _).cadenceStop _ _
  · exact h.setCad _ _

theorem Carries.trigger (h : Carries s x) (n : Fin 8) : Carries s (x.trigger n) := by
  unfold State.trigger; dsimp only; split
  · split
    · exact (h.setCad _ _).startCadenceRun _
    · exact h.miss _ _
  · exact h.miss _ _
  · exact h

theorem Carries.triggerExpires (h : Carries s x) (n : Fin 8) : Carries s (x.triggerExpires n) :=
  (h.setCad _ _).trigger _

end Sys2Proof.Machine
end

