-- ==== Sys2Proof/Laws/Settle.lean ====
section
/-! SUPPORT. What follows at the end of an event leaves unchanged: one relation for the turns of the contexts and the Loop
Port (`Turns`), one for Intake and the Queue Unit (`Wakes`), and their join (`Settles`). -/

namespace Sys2Proof.Machine

open Sys2Proof

/-- What carries over from `s` to `t` when turns are taken: everything but the contexts, the cadences, the holds, custody,
the pending list, the Loop Port and the issue log, and of the Loop Port the counters other than frames sent. -/
structure Turns (s t : State) : Prop where
  pending : t.pending = s.pending
  engine : t.engine = s.engine
  steps : t.store.steps = s.store.steps
  load : t.store.load = s.store.load
  stats : t.loop.stats = { s.loop.stats with framesSent := t.loop.stats.framesSent }
  latch : t.loop.lineLoss = s.loop.lineLoss
  receiver : t.loop.receiver = s.loop.receiver
  stations : t.stations = s.stations
  attention : t.attention = s.attention
  notice : t.notice = s.notice
  queues : t.queues = s.queues
  pins : t.pins = s.pins
  taker : t.intake.taker = s.intake.taker
  promptSeen : t.intake.promptSeen = s.intake.promptSeen
  posting : t.intake.posting = s.intake.posting
  issued : ∃ l, t.link.issued = s.link.issued ++ l ∧ ∀ y ∈ l, y.ofTurn = true
  nextAcc : s.link.nextAcc ≤ t.link.nextAcc

theorem Turns.refl (s : State) : Turns s s :=
  ⟨rfl, rfl, rfl, rfl, rfl, rfl, rfl, rfl, rfl, rfl, rfl, rfl, rfl, rfl, rfl, ⟨[], by simp, by simp⟩, le_refl _⟩

theorem Turns.trans {s t u : State} (h : Turns s t) (k : Turns t u) : Turns s u := by
  obtain ⟨l, hl, hl'⟩ := h.issued
  obtain ⟨m, hm, hm'⟩ := k.issued
  exact ⟨k.pending.trans h.pending, k.engine.trans h.engine, k.steps.trans h.steps, k.load.trans h.load,
    k.stats.trans (by rw [h.stats]), k.latch.trans h.latch, k.receiver.trans h.receiver, k.stations.trans h.stations,
    k.attention.trans h.attention, k.notice.trans h.notice, k.queues.trans h.queues, k.pins.trans h.pins,
    k.taker.trans h.taker, k.promptSeen.trans h.promptSeen, k.posting.trans h.posting,
    ⟨l ++ m, by rw [hm, hl, List.append_assoc], fun y e => (List.mem_append.1 e).elim (hl' y) (hm' y)⟩, h.nextAcc.trans k.nextAcc⟩

theorem Carries.turns {s t : State} (h : Carries s t) : Turns s t :=
  { h with stats := by rw [h.loop], latch := by rw [h.loop], receiver := by rw [h.loop] }

theorem Turns.then {s t u : State} (h : Turns s t) (k : Carries t u) : Turns s u := h.trans k.turns

variable {s x : State}

/-- A change of the Loop Port that keeps the counters, the line-loss latch and the receiver's place. -/
theorem Turns.setLoop (h : Turns s x) (f : LoopPort → LoopPort) (k : (f x.loop).stats = x.loop.stats)
    (k' : (f x.loop).lineLoss = x.loop.lineLoss) (k'' : (f x.loop).receiver = x.loop.receiver) :
    Turns s (x.setLoop f) :=
  { h with stats := by simp only [State.setLoop_loop, k]; exact h.stats, latch := k'.trans h.latch,
           receiver := k''.trans h.receiver }

theorem Turns.chose {α : Type} (h : Turns s x) (l : List α) : Turns s (x.chose l) := { h with }

theorem Turns.transmit (h : Turns s x) (f : LoopFrame) : Turns s (x.transmit f) :=
  { h with
    stats := by
      show _ = _
      simp only [State.transmit, State.issue_loop, State.setLoop_loop, State.count_loop]
      rw [h.stats]
    issued := h.issued.elim fun l hl => ⟨l ++ [.frame f], by
      simp [State.transmit, State.issue, State.setLoop, State.count, hl.1], fun y e =>
        (List.mem_append.1 e).elim (hl.2 y) fun e => by rw [List.mem_singleton.1 e]; rfl⟩ }

theorem Turns.noteGrant (h : Turns s x) (i : CtxId) : Turns s (x.noteGrant i) := by
  unfold State.noteGrant; split <;> exact h.setLoop _ rfl rfl rfl

theorem Turns.enterWindow (h : Turns s x) (o : Owner) (f : LoopFrame) : Turns s (x.enterWindow o f) :=
  h.setLoop _ rfl rfl rfl

theorem Turns.sendCommand (h : Turns s x) (i : CtxId) : Turns s (x.sendCommand i) :=
  ((h.then ((Carries.refl _).setCtx _ _)).enterWindow _ _).transmit _

theorem Turns.grant {t : State} (h : s.grant = some t) : Turns s t := by
  unfold State.grant at h
  split at h
  · split at h
    · rename_i i _
      split at h <;> simp only [Option.some.injEq] at h <;> subst h
      · exact ((Turns.refl s).noteGrant i).then ((Carries.refl _).lapse i)
      · exact ((Turns.refl s).noteGrant i).sendCommand i
    · cases h
  · cases h

theorem Turns.sendOwn (h : Turns s x) : Turns s x.sendOwn := by
  unfold State.sendOwn; dsimp only; split
  · exact (h.setLoop _ rfl rfl rfl).transmit _
  · exact (((h.setLoop _ rfl rfl rfl).setLoop _ rfl rfl rfl).enterWindow _ _).transmit _
  · exact h.setLoop _ rfl rfl rfl

theorem Turns.enterSettling (h : Turns s x) : Turns s x.enterSettling := h.setLoop _ rfl rfl rfl

theorem Turns.switchWalk (n : Nat) :
    ∀ {a : Nat} {r : Reconfigure} {x : State}, Turns s x → Turns s (Machine.switchWalk n a r x) := by
  induction n with
  | zero => exact fun h => (h.setLoop _ rfl rfl rfl).enterSettling
  | succ n ih =>
    intro a r x h
    unfold Machine.switchWalk; split
    · exact ih h
    · split
      · exact h.setLoop _ rfl rfl rfl
      · exact ih h

theorem Turns.enterSwitching (h : Turns s x) : Turns s x.enterSwitching := by
  unfold State.enterSwitching; dsimp only; split
  · exact .switchWalk _ (h.setLoop _ rfl rfl rfl)
  · exact h.setLoop _ rfl rfl rfl

theorem Turns.releaseCtx (h : Turns s x) (i : CtxId) : Turns s (x.releaseCtx i) := by
  unfold State.releaseCtx; split
  · exact h.then ((Carries.refl _).runPrepass i)
  · exact h.then ((Carries.refl _).surveyStart i)
  · exact h

theorem Turns.startHead (h : Turns s x) (i : CtxId) : Turns s (x.startHead i) := by
  unfold State.startHead; split
  · exact h
  · rename_i slot rest _
    have k : Turns s (x.setIntake fun x => { x with pendingList := rest }) := { h with }
    exact k.then ((Carries.refl _).startRequest _ _)

theorem Turns.startPending {t : State} (h : s.startPending = some t) : Turns s t := by
  unfold State.startPending at h
  split at h
  · cases h
  · split at h
    · split at h
      · cases h; exact ((Turns.refl s).startHead _).startHead _
      · split at h
        · cases h
        · cases h; exact (Turns.refl s).startHead _
    · split at h
      · split at h
        · cases h
        · cases h; exact (Turns.refl s).startHead _
      · cases h

/-- What one turn leaves unchanged. -/
theorem Turns.turn {t : State} (h : s.turn = some t) : Turns s t := by
  unfold State.turn at h
  split at h
  · cases h; exact ((Turns.refl s).chose _).releaseCtx _
  · split at h
    · rename_i k; cases h; exact .startPending k
    · split at h
      · cases h; exact (Turns.refl s).enterSwitching
      · split at h
        · cases h; exact (Turns.refl s).sendOwn
        · exact .grant h

/-- What the turns of an event leave unchanged. -/
theorem Turns.progress (n : Nat) : ∀ s : State, Turns s (Machine.progress n s) := by
  induction n with
  | zero => exact Turns.refl
  | succ n ih =>
    intro s
    unfold Machine.progress; split
    · rename_i t k; exact (Turns.turn k).trans (ih t)
    · exact Turns.refl s

/-! ### The order of the marks -/

/-- What giving out the ready order numbers of one event in another order can do: custody keeps everything but those numbers,
and choices are drawn (R152). -/
theorem reorderMarks_eq (s direct before : State) : ∃ custody choices,
    s.reorderMarks direct before = { s with intake := { s.intake with custody }, choices } ∧
      ∀ i : Fin 40, custody[i].map (fun x => { x with readyNumber := 0 }) =
        s.intake.custody[i].map fun x => { x with readyNumber := 0 } := by
  have one : ∀ (t : State) (i : Fin 40) (n : Word), ∃ custody,
      t.setReadyNumber i n = { t with intake := { t.intake with custody } } ∧
        ∀ j : Fin 40, custody[j].map (fun x => { x with readyNumber := 0 }) =
          t.intake.custody[j].map fun x => { x with readyNumber := 0 } := by
    intro t i n
    unfold State.setReadyNumber
    cases e : t.slot i with
    | none => exact ⟨t.intake.custody, rfl, fun _ => rfl⟩
    | some x =>
      refine ⟨t.intake.custody.set i (some { x with readyNumber := n }), rfl, fun j => ?_⟩
      by_cases k : i.val = j.val
      · obtain rfl := Fin.ext k
        have e' : t.intake.custody[i] = some x := e
        rw [e']
        simp [Fin.getElem_fin]
      · simp only [Fin.getElem_fin] at *
        rw [Vector.getElem_set_ne _ _ k]
  have all : ∀ (l : List (Fin 40 × Option Word)) (t : State), ∃ custody,
      l.foldl (fun t x => t.setReadyNumber x.1 (x.2.getD 0)) t = { t with intake := { t.intake with custody } } ∧
        ∀ j : Fin 40, custody[j].map (fun x => { x with readyNumber := 0 }) =
          t.intake.custody[j].map fun x => { x with readyNumber := 0 } := by
    intro l
    induction l with
    | nil => exact fun t => ⟨t.intake.custody, rfl, fun _ => rfl⟩
    | cons x l ih =>
      intro t
      obtain ⟨c, h, k⟩ := one t x.1 (x.2.getD 0)
      obtain ⟨d, h', k'⟩ := ih (t.setReadyNumber x.1 (x.2.getD 0))
      refine ⟨d, ?_, fun j => ?_⟩
      · rw [List.foldl_cons, h', h]
      · rw [k', h]; exact k j
  unfold State.reorderMarks
  split
  · exact ⟨s.intake.custody, s.choices, rfl, fun _ => rfl⟩
  · obtain ⟨c, h, k⟩ := all _ { s with choices := _ }
    exact ⟨c, _, h, k⟩

/-- With no mark made by a turn, the marks keep their order. -/
theorem reorderMarks_none (s direct before : State) (h : s.newlyReady direct = []) : s.reorderMarks direct before = s := by
  unfold State.reorderMarks; rw [if_pos h]

/-- Turns that leave custody as it is make no mark. -/
theorem newlyReady_of_custody (s direct : State) (h : s.intake.custody = direct.intake.custody) : s.newlyReady direct = [] := by
  unfold State.newlyReady
  rw [List.filter_eq_nil_iff]
  intro i _
  have e : (s.readyAge i).isSome = (direct.readyAge i).isSome := by
    unfold State.readyAge State.slot; rw [h]
    split
    · split <;> rfl
    · rfl
  rw [e, ← Option.not_isSome]; cases (direct.readyAge i).isSome <;> decide

theorem Turns.reorderMarks (h : Turns s x) (direct before : State) : Turns s (x.reorderMarks direct before) := by
  obtain ⟨c, k, e, -⟩ := reorderMarks_eq x direct before
  rw [e]; exact { h with }

/-- With no turn to take, the turns of an event change nothing. -/
theorem progress_none (n : Nat) (s : State) (h : s.turn = none) : progress n s = s := by
  cases n with
  | zero => rfl
  | succ n => unfold progress; rw [h]

/-! ### Free orders -/

/-- What a free order picks first is one of the things ordered. -/
theorem arrange_head_mem {α : Type} (n k : Nat) (l : List α) (x : α) (r : List α) (h : arrange n k l = x :: r) : x ∈ l := by
  cases n with
  | zero => simp only [arrange] at h; simp [h]
  | succ n =>
    match l, h with
    | [], h => simp [arrange] at h
    | [y], h => simp only [arrange, List.cons.injEq] at h; simp [h.1]
    | y :: z :: l, h =>
      simp only [arrange, List.cons.injEq] at h
      rw [← h.1]
      have : Config.choice k % (l.length + 2) < (y :: z :: l).length := Nat.mod_lt _ (by omega)
      rw [List.getElem?_eq_getElem this]
      exact List.getElem_mem this

/-- A free order of a list is a permutation of it. -/
theorem arrange_perm {α : Type} (n : Nat) : ∀ (k : Nat) (l : List α), (arrange n k l).Perm l := by
  induction n with
  | zero => intro k l; exact .refl l
  | succ n ih =>
    intro k l
    match l with
    | [] => exact .refl _
    | [x] => exact .refl _
    | x :: y :: l =>
      have e : Config.choice k % (l.length + 2) < (x :: y :: l).length := Nat.mod_lt _ (by omega)
      simp only [arrange]
      refine (List.Perm.cons _ (ih _ _)).trans ?_
      rw [List.getElem?_eq_getElem e, Option.getD_some]
      exact List.getElem_cons_eraseIdx_perm e

theorem freeOrder_perm {α : Type} (s : State) (l : List α) : (freeOrder s l).Perm l := arrange_perm _ _ _

@[simp] theorem freeOrder_nil {α : Type} (s : State) : freeOrder s ([] : List α) = [] := rfl

@[simp] theorem freeOrder_singleton {α : Type} (s : State) (x : α) : freeOrder s [x] = [x] := rfl

/-! ### Intake and the Queue Unit -/

/-- What carries over when the taker, the poster and the notice engine begin what they may, before a claim goes out: the
operations that stand, and the operations of those that waited for none. -/
structure Begins (s t : State) : Prop where
  pending : t.pending = s.pending
  engine : t.engine = s.engine
  store : t.store = s.store
  contexts : t.contexts = s.contexts
  loop : t.loop = s.loop
  stations : t.stations = s.stations
  cadences : t.cadences = s.cadences
  attention : t.attention = s.attention
  lock : t.queues.lock = s.queues.lock
  waits : ∀ q, s.waitsFor q = true → t.waitsFor q = true
  ops : ∀ q, t.queues.op q = s.queues.op q ∨
    s.waitsFor q = false ∧ t.waitsFor q = true ∧ ∃ frame, t.queues.op q = some (QueueOp.fresh .deferred frame)
  custody : t.intake.custody = s.intake.custody
  pendingList : t.intake.pendingList = s.intake.pendingList
  readyCounter : t.intake.readyCounter = s.intake.readyCounter
  pins : t.pins = s.pins
  nextAcc : t.link.nextAcc = s.link.nextAcc

theorem Begins.refl (s : State) : Begins s s :=
  ⟨rfl, rfl, rfl, rfl, rfl, rfl, rfl, rfl, rfl, fun _ h => h, fun _ => .inl rfl, rfl, rfl, rfl, rfl, rfl⟩

theorem Begins.trans {s t u : State} (h : Begins s t) (k : Begins t u) : Begins s u := by
  refine ⟨k.pending.trans h.pending, k.engine.trans h.engine, k.store.trans h.store, k.contexts.trans h.contexts,
    k.loop.trans h.loop, k.stations.trans h.stations, k.cadences.trans h.cadences, k.attention.trans h.attention,
    k.lock.trans h.lock, fun q e => k.waits q (h.waits q e), fun q => ?_, k.custody.trans h.custody,
    k.pendingList.trans h.pendingList, k.readyCounter.trans h.readyCounter, k.pins.trans h.pins,
    k.nextAcc.trans h.nextAcc⟩
  rcases k.ops q with e | ⟨e, e', f⟩
  · rcases h.ops q with g | ⟨g, g', f⟩
    · exact .inl (e.trans g)
    · exact .inr ⟨g, k.waits q g', e ▸ f⟩
  · refine .inr ⟨?_, e', f⟩
    by_contra c
    rw [Bool.not_eq_false] at c
    rw [h.waits q c] at e; cases e

theorem Begins.chose {α : Type} (s : State) (l : List α) : Begins s (s.chose l) :=
  { Begins.refl s with waits := fun q h => by cases q <;> exact h }

/-- The state with an operation asked for: its queue's operation is new, and an insertion's frame has its next link
cleared (R124, R131). -/
theorem askOp_eq (s : State) (q : Queue) (f : Nat) :
    s.askOp q f = { s with
      queues := s.queues.setOp q (some (QueueOp.fresh .deferred f)),
      link := { s.link with
        issued := s.link.issued ++ if f = 0 then [] else [.write (s.frameAddr f) (zeros 4)] } } := by
  unfold State.askOp; dsimp only
  split
  · simp [State.setOp, QueueOp.fresh]
  · rfl

/-- Beginning an operation that a requester did not wait for, whatever else of Intake and the notice engine changes. -/
theorem Begins.ask {s t : State} (q : Queue) (f : Nat) (i : Intake) (n : NoticeEngine) (l : Link)
    (e : t = { s with intake := i, notice := n, queues := s.queues.setOp q (some (QueueOp.fresh .deferred f)), link := l })
    (hq : s.waitsFor q = false) (hq' : t.waitsFor q = true) (hw : ∀ r, s.waitsFor r = true → t.waitsFor r = true)
    (hc : i.custody = s.intake.custody) (hp : i.pendingList = s.intake.pendingList)
    (hr : i.readyCounter = s.intake.readyCounter) (hl : l.nextAcc = s.link.nextAcc) : Begins s t := by
  subst e
  refine ⟨rfl, rfl, rfl, rfl, rfl, rfl, rfl, rfl, QueueUnit.lock_setOp _ _ _, hw, fun r => ?_, hc, hp, hr, rfl, hl⟩
  by_cases h : q = r
  · subst h; exact .inr ⟨hq, hq', f, QueueUnit.op_setOp_same _ _ _⟩
  · exact .inl (QueueUnit.op_setOp_other _ _ _ _ h)

theorem takerBegin_eq (s : State) : s.takerBegin = { s with
    intake := { s.intake with taker := .looking, promptSeen := false },
    queues := s.queues.setOp .request (some (QueueOp.fresh .deferred 0)) } := by
  unfold State.takerBegin
  rw [askOp_eq]
  simp [State.setIntake]

theorem noticeBegin_eq (s : State) : s.noticeBegin = { s with
    notice := { s.notice with removing := true, promptSeen := false },
    queues := s.queues.setOp .spare (some (QueueOp.fresh .deferred 0)) } := by
  unfold State.noticeBegin
  rw [askOp_eq]
  simp [State.setNotice]

theorem takerReady_blocked (s : State) (h : s.takerReady = true) : s.intake.taker = .blocked := by
  simp only [State.takerReady, Bool.and_eq_true, beq_iff_eq] at h; exact h.1.1.1.2

theorem noticeAble_idle (s : State) (h : s.noticeAble = true) : s.notice.removing = false := by
  simp only [State.noticeAble, Bool.and_eq_true, Bool.not_eq_true'] at h; exact h.1.2

theorem Begins.takerBegin (s : State) (h : s.takerReady = true) : Begins s s.takerBegin := by
  have b := takerReady_blocked s h
  refine .ask .request 0 { s.intake with taker := .looking, promptSeen := false } s.notice s.link (takerBegin_eq s) ?_ ?_ ?_
    rfl rfl rfl rfl
  · simp [State.waitsFor, b]
  · rw [takerBegin_eq]; rfl
  · rw [takerBegin_eq]; intro r e; cases r
    · rfl
    · exact e
    · exact e

theorem Begins.noticeBegin (s : State) (h : s.noticeAble = true) : Begins s s.noticeBegin := by
  refine .ask .spare 0 s.intake { s.notice with removing := true, promptSeen := false } s.link (noticeBegin_eq s)
    (noticeAble_idle s h) ?_ ?_ rfl rfl rfl rfl
  · rw [noticeBegin_eq]; rfl
  · rw [noticeBegin_eq]; intro r e; cases r
    · exact e
    · exact e
    · rfl

/-- The taker once its frame has left TAKEN. -/
theorem takerAfter_eq (s : State) (h : s.active = true) :
    s.takerAfter = { s with intake := { s.intake with taker := s.takerNow } } := by
  unfold State.takerAfter State.takerNow
  by_cases k : s.intake.taker = .dispatching ∧ s.anyTaken = false
  · rw [if_pos k, if_pos ⟨h, k⟩]; rfl
  · rw [if_neg k, if_neg fun e => k e.2]

theorem Begins.takerAfter (s : State) : Begins s s.takerAfter := by
  unfold State.takerAfter; split
  · rename_i h
    refine { Begins.refl s with waits := ?_, ops := fun _ => .inl rfl }
    intro q k; cases q
    · exfalso; rw [State.waitsFor, h.1] at k; cases k
    · exact k
    · exact k
  · exact .refl s

/-- The slot the poster takes is READY. -/
theorem oldestReady_slot (s : State) (i : Fin 40) (h : s.oldestReady = some i) : ∃ x, s.slot i = some x ∧ x.state = .ready := by
  have key : ∀ (l : List (Fin 40)) (b : Option (Fin 40)),
      (∀ j, b = some j → (s.readyAge j).isSome) → ∀ j,
      l.foldl (fun best i => match s.readyAge i, best with
        | none, _ => best
        | some _, none => some i
        | some a, some j => if (s.readyAge j).getD 0 < a then some i else best) b = some j → (s.readyAge j).isSome := by
    intro l
    induction l with
    | nil => intro b hb j hj; exact hb j hj
    | cons k l ih =>
      intro b hb j hj
      rw [List.foldl_cons] at hj
      refine ih _ ?_ j hj
      intro m hm
      cases e : s.readyAge k with
      | none => rw [e] at hm; exact hb m (by cases b <;> exact hm)
      | some a =>
        rw [e] at hm
        cases b with
        | none => cases hm; rw [e]; rfl
        | some i =>
          dsimp only at hm
          split at hm
          · cases hm; rw [e]; rfl
          · exact hb m hm
  have := key _ none (by simp) i h
  unfold State.readyAge at this
  split at this
  · split at this
    · exact ⟨_, ‹_›, ‹_›⟩
    · cases this
  · cases this

/-- The poster goes on: it has its slot in hand, its operation asked for and the frame's next link cleared. -/
theorem post1_eq (s : State) (h : s.active = true) : ∃ u : QueueUnit,
    s.post1 = { s with
      intake := { s.intake with posting := s.posterNow }, queues := u,
      link := { s.link with issued := s.link.issued ++ s.linkZero } } ∧
    (u = s.queues ∨ s.intake.posting = none ∧ s.posterNow.isSome = true ∧
      ∃ f, u = s.queues.setOp .done (some (QueueOp.fresh .deferred f))) := by
  unfold State.post1 State.posterNow State.linkZero
  by_cases k : s.intake.posting = none
  · rw [if_pos ⟨h, k⟩, if_pos ⟨h, k⟩, if_pos ⟨h, k⟩]
    cases o : s.oldestReady with
    | none =>
      have e : ({ s.intake with posting := none } : Intake) = s.intake := by rw [← k]
      exact ⟨s.queues, by simp only [Option.bind_none, List.append_nil, e], .inl rfl⟩
    | some i =>
      obtain ⟨x, hx, -⟩ := oldestReady_slot s i o
      simp only [hx, Option.bind_some]
      refine ⟨_, ?_, .inr ⟨k, rfl, x.index, rfl⟩⟩
      rw [askOp_eq]; rfl
  · have n : ¬ (s.active = true ∧ s.intake.posting = none) := fun e => k e.2
    rw [if_neg n, if_neg n, if_neg n]
    exact ⟨s.queues, by simp, .inl rfl⟩

theorem Begins.post1 (s : State) : Begins s s.post1 := by
  by_cases h : s.active = true
  · obtain ⟨u, e, hu | ⟨k, k', f, hu⟩⟩ := post1_eq s h
    · subst hu
      by_cases k : s.intake.posting = none
      · rw [e]
        refine { Begins.refl s with waits := ?_, ops := fun _ => .inl rfl }
        intro q w; cases q
        · exact w
        · exfalso; rw [State.waitsFor, k] at w; cases w
        · exact w
      · have : s.post1 = s := by
          unfold State.post1; rw [if_neg fun e => k e.2]
        rw [this]; exact .refl s
    · refine .ask .done f { s.intake with posting := s.posterNow } s.notice
        { s.link with issued := s.link.issued ++ s.linkZero } (hu ▸ e) ?_ ?_ ?_ rfl rfl rfl rfl
      · simp [State.waitsFor, k]
      · rw [e]; exact k'
      · rw [e]; intro r w; cases r
        · exact w
        · exact k'
        · exact w
  · unfold State.post1; rw [if_neg fun e => h e.1]; exact .refl s

theorem noticeReady_able (s before : State) (h : s.noticeReady before = true) : s.noticeAble = true := by
  simp only [State.noticeReady, Bool.and_eq_true] at h; exact h.1

/-- What the taker and the notice engine may leave when they begin what they may. -/
structure Removes (s t : State) : Prop extends Begins s t where
  posting : t.intake.posting = s.intake.posting
  issued : t.link.issued = s.link.issued
  taker : s.takerReady = true ∧ t.intake.taker = .looking ∧ t.intake.promptSeen = false ∨
    t.intake.taker = s.intake.taker ∧ t.intake.promptSeen = s.intake.promptSeen
  notice : t.notice = s.notice ∨
    s.noticeAble = true ∧ t.notice = { s.notice with removing := true, promptSeen := false }

theorem Removes.refl (s : State) : Removes s s :=
  { Begins.refl s with posting := rfl, issued := rfl, taker := .inr ⟨rfl, rfl⟩, notice := .inl rfl }

/-- What the taker's removal takes from the available count. -/
theorem available_takerBegin (s : State) (h : s.takerReady = true) : s.takerBegin.available = s.available - 1 := by
  have b := takerReady_blocked s h
  have r : s.engine.state = .running := by
    simp only [State.takerReady, Bool.and_eq_true, beq_iff_eq] at h; exact h.1.1.1.1
  simp only [State.available, State.reserved, State.freeCount, takerBegin_eq, b, r]
  simp; omega

/-- What the notice engine's removal takes from the available count. -/
theorem available_noticeBegin (s : State) (h : s.noticeAble = true) : s.noticeBegin.available = s.available - 1 := by
  have b := noticeAble_idle s h
  have r : s.engine.state = .running := by
    simp only [State.noticeAble, Bool.and_eq_true, beq_iff_eq] at h; exact h.1.1.1
  simp only [State.available, State.reserved, State.freeCount, noticeBegin_eq, b, r]
  simp; omega

/-- The taker's removal leaves the notice engine free to begin. -/
theorem noticeAble_takerBegin (s : State) (h : s.takerReady = true) : s.takerBegin.noticeAble = s.noticeAble := by
  have a := available_takerBegin s h
  have five : 5 ≤ s.available := by
    simp only [State.takerReady, Bool.and_eq_true, decide_eq_true_eq] at h; exact h.2
  have d : s.takerBegin.noticeDue = s.noticeDue := by rw [takerBegin_eq]; rfl
  have e : s.takerBegin.engine = s.engine ∧ s.takerBegin.notice = s.notice := by rw [takerBegin_eq]; exact ⟨rfl, rfl⟩
  have p : decide (1 ≤ s.available - 1) = true := by simp; omega
  have p' : decide (1 ≤ s.available) = true := by simp; omega
  simp only [State.noticeAble, a, d, e.1, e.2, p, p']

theorem noticeReady_takerBegin (s before : State) (h : s.takerReady = true) :
    s.takerBegin.noticeReady before = s.noticeReady before := by
  have n := noticeAble_takerBegin s h
  have e : s.takerBegin.noticeNews before = s.noticeNews before := by rw [takerBegin_eq]; rfl
  have e' : s.takerBegin.notice = s.notice := by rw [takerBegin_eq]
  simp only [State.noticeReady, n, e, e']

/-- The notice engine's removal leaves the taker free to begin but where the count stands at five. -/
theorem takerReady_noticeBegin (s : State) (h : s.noticeAble = true) :
    s.noticeBegin.takerReady = (s.takerReady && decide (s.available ≠ 5)) := by
  have a := available_noticeBegin s h
  have one : 1 ≤ s.available := by
    simp only [State.noticeAble, Bool.and_eq_true, decide_eq_true_eq] at h; exact h.2
  have e : s.noticeBegin.engine = s.engine ∧ s.noticeBegin.intake = s.intake ∧ s.noticeBegin.anyTaken = s.anyTaken := by
    rw [noticeBegin_eq]; exact ⟨rfl, rfl, rfl⟩
  simp only [State.takerReady, a, e.1, e.2.1, e.2.2, Config.takerReserve]
  by_cases k : s.available = 5
  · simp [k]
  · have : decide (5 ≤ s.available - 1) = decide (5 ≤ s.available) := by
      simp only [decide_eq_decide]; omega
    simp [this, k]

theorem removes_noticeBegin (s : State) (h : s.noticeAble = true) : Removes s s.noticeBegin :=
  { Begins.noticeBegin s h with
    posting := by rw [noticeBegin_eq]
    issued := by rw [noticeBegin_eq]
    taker := .inr (by rw [noticeBegin_eq]; exact ⟨rfl, rfl⟩)
    notice := .inr ⟨h, by rw [noticeBegin_eq]⟩ }

theorem removes_takerBegin (s : State) (h : s.takerReady = true) : Removes s s.takerBegin :=
  { Begins.takerBegin s h with
    posting := by rw [takerBegin_eq]
    issued := by rw [takerBegin_eq]
    taker := .inl ⟨h, by rw [takerBegin_eq]; exact ⟨rfl, rfl⟩⟩
    notice := .inl (by rw [takerBegin_eq]) }

/-- Both begin, the taker's removal first in the unit. -/
theorem removes_both (s : State) (h : s.takerReady = true) (k : s.noticeAble = true) :
    Removes s s.takerBegin.noticeBegin := by
  have k' : s.takerBegin.noticeAble = true := by rw [noticeAble_takerBegin s h, k]
  exact { (Begins.takerBegin s h).trans (Begins.noticeBegin _ k') with
    posting := by rw [noticeBegin_eq, takerBegin_eq]
    issued := by rw [noticeBegin_eq, takerBegin_eq]
    taker := .inl ⟨h, by rw [noticeBegin_eq, takerBegin_eq]; exact ⟨rfl, rfl⟩⟩
    notice := .inr ⟨k, by rw [noticeBegin_eq, takerBegin_eq]⟩ }

/-- What the taker and the notice engine begin: one case for each that may. -/
theorem beginRemovals_cases (s before : State) :
    (s.takerReady = false ∧ s.noticeReady before = false ∧ s.beginRemovals before = s) ∨
    (s.takerReady = true ∧ s.noticeReady before = false ∧ s.beginRemovals before = s.takerBegin) ∨
    (s.takerReady = false ∧ s.noticeReady before = true ∧ s.beginRemovals before = s.noticeBegin) ∨
    (s.takerReady = true ∧ s.noticeReady before = true ∧
      (s.beginRemovals before = s.takerBegin.noticeBegin ∨
        s.available = 5 ∧ (s.beginRemovals before = (s.chose [true, false]).takerBegin.noticeBegin ∨
          s.beginRemovals before = (s.chose [true, false]).noticeBegin))) := by
  unfold State.beginRemovals; dsimp only
  by_cases t : s.takerReady = true
  · have n' := noticeReady_takerBegin s before t
    by_cases n : s.noticeReady before = true
    · refine .inr (.inr (.inr ⟨t, n, ?_⟩))
      by_cases f : s.available = 5
      · refine .inr ⟨f, ?_⟩
        rw [if_pos (by simp [t, n, f])]
        have tc : (s.chose [true, false]).takerReady = true := t
        have nc : (s.chose [true, false]).noticeReady before = true := n
        split
        · left
          rw [if_pos (by rw [noticeReady_takerBegin _ _ tc]; exact nc)]
        · right
          rw [if_neg]
          rw [takerReady_noticeBegin _ (noticeReady_able _ _ nc)]
          have : (s.chose [true, false]).available = 5 := f
          simp [this]
      · left
        rw [if_neg (by simp [f]), if_pos t, if_pos (by rw [n', n])]
    · rw [Bool.not_eq_true] at n
      refine .inr (.inl ⟨t, n, ?_⟩)
      rw [if_neg (by simp [n]), if_pos t, if_neg (by rw [n', n]; simp)]
  · rw [Bool.not_eq_true] at t
    by_cases n : s.noticeReady before = true
    · refine .inr (.inr (.inl ⟨t, n, ?_⟩))
      simp [t, n]
    · rw [Bool.not_eq_true] at n
      refine .inl ⟨t, n, ?_⟩
      simp [t, n]

theorem Removes.of_chose {s t : State} (l : List Bool) (h : Removes (s.chose l) t) : Removes s t :=
  { (Begins.chose s l).trans h.toBegins with
    posting := h.posting, issued := h.issued, taker := h.taker, notice := h.notice }

theorem Removes.beginRemovals (s before : State) : Removes s (s.beginRemovals before) := by
  rcases beginRemovals_cases s before with ⟨-, -, e⟩ | ⟨t, -, e⟩ | ⟨-, n, e⟩ | ⟨t, n, e | ⟨-, e | e⟩⟩ <;> rw [e]
  · exact .refl s
  · exact removes_takerBegin s t
  · exact removes_noticeBegin s (noticeReady_able _ _ n)
  · exact removes_both s t (noticeReady_able _ _ n)
  · exact (removes_both (s.chose _) t (noticeReady_able _ _ n)).of_chose
  · exact (removes_noticeBegin (s.chose _) (noticeReady_able _ _ n)).of_chose

/-- A taker that may begin does, unless the notice engine takes the fifth slot. -/
theorem beginRemovals_taker (s before : State) (h : s.takerReady = true) (k : s.available ≠ 5 ∨ s.noticeAble = false) :
    (s.beginRemovals before).intake.taker = .looking := by
  rcases beginRemovals_cases s before with ⟨t, -, -⟩ | ⟨-, -, e⟩ | ⟨t, -, -⟩ | ⟨-, n, e | ⟨f, -⟩⟩
  · rw [h] at t; cases t
  · rw [e, takerBegin_eq]
  · rw [h] at t; cases t
  · rw [e, noticeBegin_eq, takerBegin_eq]
  · rcases k with k | k
    · exact absurd f k
    · rw [noticeReady_able _ _ n] at k; cases k

/-- A notice engine that may begin does, outside an episode or after a prompt. -/
theorem beginRemovals_notice (s before : State) (h : s.noticeAble = true)
    (k : s.notice.episode = false ∨ s.notice.promptSeen = true) : (s.beginRemovals before).notice.removing = true := by
  have n : s.noticeReady before = true := by
    rcases k with k | k <;> simp [State.noticeReady, h, k]
  rcases beginRemovals_cases s before with ⟨-, m, -⟩ | ⟨-, m, -⟩ | ⟨-, -, e⟩ | ⟨-, -, e | ⟨-, e | e⟩⟩
  · rw [n] at m; cases m
  · rw [n] at m; cases m
  all_goals rw [e, noticeBegin_eq]

/-! ### Claims -/

/-- Issuing a claim of an operation that stands. -/
theorem claim_eq (s : State) (q : Queue) (o : QueueOp) (h : s.queues.op q = some o) : s.claim q = { s with
    queues := s.queues.setOp q (some { o with phase := .claiming s.link.nextAcc }),
    link := { nextAcc := s.link.nextAcc + 1,
              issued := s.link.issued ++ [.compareSwap s.link.nextAcc (s.headerAddr q) 0 2] } } := by
  unfold State.claim; rw [h]; rfl

/-- What issuing a claim that is due does: nothing, or one claim while no lock is held. -/
theorem issueClaims_cases (s : State) :
    (s.issueClaims = s ∧ (s.mayClaim = false ∨ s.deferredQueues = [])) ∨
    ∃ q o c, s.mayClaim = true ∧ s.queues.op q = some o ∧ o.phase = .deferred ∧
      s.issueClaims = { s with
        choices := c,
        queues := s.queues.setOp q (some { o with phase := .claiming s.link.nextAcc }),
        link := { nextAcc := s.link.nextAcc + 1,
                  issued := s.link.issued ++ [.compareSwap s.link.nextAcc (s.headerAddr q) 0 2] } } := by
  unfold State.issueClaims
  by_cases m : s.mayClaim = true
  · rw [if_pos m]
    cases e : freeOrder s s.deferredQueues with
    | nil =>
      refine .inl ⟨rfl, .inr ?_⟩
      have := (freeOrder_perm s s.deferredQueues).length_eq
      rw [e] at this
      exact List.eq_nil_of_length_eq_zero this.symm
    | cons q r =>
      right
      have mem := arrange_head_mem _ _ _ _ _ e
      simp only [State.deferredQueues, List.mem_filter, State.phaseIs] at mem
      cases ho : s.queues.op q with
      | none => rw [ho] at mem; simp at mem
      | some o =>
        rw [ho] at mem
        refine ⟨q, o, (s.chose s.deferredQueues).choices, m, ho, by simpa using mem.2, ?_⟩
        show (s.chose _).claim q = _
        rw [claim_eq (s.chose _) q o ho]; rfl
  · rw [Bool.not_eq_true] at m
    rw [m]
    exact .inl ⟨rfl, .inl rfl⟩

/-- A claim may go out only while no lock is held (R124). -/
theorem mayClaim_lock (s : State) (h : s.mayClaim = true) : s.queues.lock = none := by
  simp only [State.mayClaim, Bool.and_eq_true, Option.isNone_iff_eq_none] at h; exact h.1

/-- Beginning operations leaves a claim free to go out. -/
theorem Begins.mayClaim {s t : State} (h : Begins s t) (k : s.mayClaim = true) : t.mayClaim = true := by
  simp only [State.mayClaim, Bool.and_eq_true, h.lock, Bool.not_eq_true', List.any_eq_false] at k ⊢
  refine ⟨k.1, fun q hq => ?_⟩
  have := k.2 q hq
  simp only [State.phaseIs] at this ⊢
  rcases h.ops q with e | ⟨-, -, f, e⟩ <;> rw [e]
  · exact this
  · simp [QueueOp.fresh, Phase.isClaiming]

/-- Beginning operations leaves what is due to be claimed due. -/
theorem Begins.deferred {s t : State} (h : Begins s t) (k : s.deferredQueues ≠ []) : t.deferredQueues ≠ [] := by
  obtain ⟨q, hq⟩ := List.exists_mem_of_ne_nil _ k
  have : q ∈ t.deferredQueues := by
    simp only [State.deferredQueues, List.mem_filter, State.phaseIs] at hq ⊢
    refine ⟨hq.1, ?_⟩
    rcases h.ops q with e | ⟨-, -, f, e⟩ <;> rw [e]
    · exact hq.2
    · simp [QueueOp.fresh]
  exact List.ne_nil_of_mem this

/-! ### The end of an event -/

/-- The poster's slot and its write, and the taker's state, after the taker and the poster have gone on. -/
theorem prepared_eq (s : State) (h : s.active = true) : ∃ u : QueueUnit,
    s.takerAfter.post1 = { s with
      intake := { s.intake with taker := s.takerNow, posting := s.posterNow }, queues := u,
      link := { s.link with issued := s.link.issued ++ s.linkZero } } := by
  obtain ⟨u, e, -⟩ := post1_eq s.takerAfter (by rw [takerAfter_eq s h]; exact h)
  refine ⟨u, ?_⟩
  rw [e, takerAfter_eq s h]
  rfl

theorem prepared_takerReady (s : State) (h : s.active = true) : s.takerAfter.post1.takerReady = s.takerMay := by
  obtain ⟨u, e⟩ := prepared_eq s h
  have r : (if s.takerNow = .looking then 1 else 0) = if s.intake.taker = .looking then 1 else 0 := by
    unfold State.takerNow
    by_cases k : s.active = true ∧ s.intake.taker = .dispatching ∧ s.anyTaken = false
    · rw [if_pos k]; simp [k.2.1]
      split <;> simp
    · rw [if_neg k]
  rw [e]
  simp only [State.takerReady, State.takerMay, State.available, State.reserved, State.freeCount, State.anyTaken, r,
    Config.pendingSize, Config.takerReserve]
  rfl

theorem prepared_noticeAble (s : State) (h : s.active = true) : s.takerAfter.post1.noticeAble = s.noticeAble := by
  obtain ⟨u, e⟩ := prepared_eq s h
  have r : (if s.takerNow = .looking then 1 else 0) = if s.intake.taker = .looking then 1 else 0 := by
    unfold State.takerNow
    by_cases k : s.active = true ∧ s.intake.taker = .dispatching ∧ s.anyTaken = false
    · rw [if_pos k]; simp [k.2.1]
      split <;> simp
    · rw [if_neg k]
  rw [e]
  simp only [State.noticeAble, State.noticeDue, State.anyOwed, State.anyWaiting, State.available, State.reserved,
    State.freeCount, r]
  rfl

theorem prepared_available (s : State) (h : s.active = true) : s.takerAfter.post1.available = s.available := by
  obtain ⟨u, e⟩ := prepared_eq s h
  have r : (if s.takerNow = .looking then 1 else 0) = if s.intake.taker = .looking then 1 else 0 := by
    unfold State.takerNow
    by_cases k : s.active = true ∧ s.intake.taker = .dispatching ∧ s.anyTaken = false
    · rw [if_pos k]; simp [k.2.1]
      split <;> simp
    · rw [if_neg k]
  rw [e]
  simp only [State.available, State.reserved, State.freeCount, r]

/-- With nothing RUNNING or QUIESCING, nothing is due. -/
theorem Wakes.refl_inactive (s : State) (h : s.active = false) : Wakes s s := by
  have r : s.engine.state ≠ .running := by
    intro e; simp [State.active, e] at h
  have nt : s.takerNow = s.intake.taker := by simp [State.takerNow, h]
  have np : s.posterNow = s.intake.posting := by simp [State.posterNow, h]
  have nz : s.linkZero = [] := by simp [State.linkZero, h]
  have na : s.noticeAble = false := by simp [State.noticeAble, r]
  have nm : s.takerMay = false := by simp [State.takerMay, r]
  exact
    { pending := rfl, engine := .inl rfl, store := rfl, contexts := rfl, loop := .inl rfl, stations := rfl, cadences := rfl
      attention := rfl, lock := rfl, waits := fun _ h => h, ops := fun _ => .inl rfl
      taker := .inr ⟨.inl nt.symm, rfl⟩
      takerBegins := fun k => by rw [nm] at k; cases k
      notice := .inl rfl
      noticeBegins := fun k => by rw [na] at k; cases k
      posting := np.symm, custody := rfl, pendingList := rfl, readyCounter := rfl, pins := rfl
      link := .inl (by rw [nz]; simp)
      claims := fun k => by rw [h] at k; cases k }

/-- What the end of an event at Intake and the Queue Unit leaves, before a QUIESCE reaches its end. -/
theorem Wakes.begun (s before : State) (h : s.active = true) :
    Wakes s (((s.takerAfter.post1).beginRemovals before).issueClaims) ∧
      (((s.takerAfter.post1).beginRemovals before).issueClaims).engine = s.engine ∧
      (((s.takerAfter.post1).beginRemovals before).issueClaims).loop = s.loop := by
  obtain ⟨u, e⟩ := prepared_eq s h
  have b : Begins s s.takerAfter.post1 := (Begins.takerAfter s).trans (.post1 _)
  have r := Removes.beginRemovals s.takerAfter.post1 before
  have br := b.trans r.toBegins
  have mt := beginRemovals_taker s.takerAfter.post1 before
  have mn := beginRemovals_notice s.takerAfter.post1 before
  rw [prepared_takerReady s h, prepared_available s h, prepared_noticeAble s h] at mt
  rw [prepared_noticeAble s h] at mn
  have rt := r.taker
  have rn := r.notice
  have ri := r.issued
  have rp := r.posting
  rw [prepared_takerReady s h] at rt
  rw [prepared_noticeAble s h] at rn
  have et : s.takerAfter.post1.intake.taker = s.takerNow ∧ s.takerAfter.post1.intake.promptSeen = s.intake.promptSeen ∧
      s.takerAfter.post1.intake.posting = s.posterNow ∧ s.takerAfter.post1.notice = s.notice ∧
      s.takerAfter.post1.link.issued = s.link.issued ++ s.linkZero := by rw [e]; exact ⟨rfl, rfl, rfl, rfl, rfl⟩
  rw [et.1, et.2.1] at rt
  rw [et.2.2.2.1] at rn mn
  rw [et.2.2.1] at rp
  rw [et.2.2.2.2] at ri
  generalize hc : (s.takerAfter.post1).beginRemovals before = c at *
  rcases issueClaims_cases c with ⟨ec, nc⟩ | ⟨q, o, ch, mc, ho, hd, ec⟩
  · rw [ec]
    refine ⟨?_, br.engine, br.loop⟩
    exact
      { pending := br.pending, engine := .inl br.engine, store := br.store, contexts := br.contexts, loop := .inl br.loop
        stations := br.stations, cadences := br.cadences, attention := br.attention, lock := br.lock, waits := br.waits
        ops := fun q => (br.ops q).imp_right fun ⟨x, y, f, z⟩ => .inr ⟨x, y, .deferred, f, z, .inl rfl⟩
        taker := rt.imp_right fun x => ⟨.inl x.1, x.2⟩
        takerBegins := mt, notice := rn, noticeBegins := mn, posting := rp, custody := br.custody
        pendingList := br.pendingList, readyCounter := br.readyCounter, pins := br.pins
        link := .inl (by rw [← br.nextAcc, ← ri])
        claims := fun _ k1 k2 => by
          rcases nc with nc | nc
          · rw [br.mayClaim k1] at nc; cases nc
          · exact absurd nc (br.deferred k2) }
  · have w : ∀ r, c.issueClaims.waitsFor r = c.waitsFor r := by
      intro r; rw [ec]; cases r <;> rfl
    have na : c.link.nextAcc = s.link.nextAcc := br.nextAcc
    have opq : c.issueClaims.queues.op q = some { o with phase := .claiming s.link.nextAcc } := by
      rw [ec]; simp only [QueueUnit.op_setOp_same, na]
    refine ⟨?_, by rw [ec]; exact br.engine, by rw [ec]; exact br.loop⟩
    exact
      { pending := by rw [ec]; exact br.pending
        engine := .inl (by rw [ec]; exact br.engine)
        store := by rw [ec]; exact br.store
        contexts := by rw [ec]; exact br.contexts
        loop := .inl (by rw [ec]; exact br.loop)
        stations := by rw [ec]; exact br.stations
        cadences := by rw [ec]; exact br.cadences
        attention := by rw [ec]; exact br.attention
        lock := by rw [ec]; exact (QueueUnit.lock_setOp _ _ _).trans br.lock
        waits := fun r k => by rw [w]; exact br.waits r k
        ops := fun r => by
          by_cases k : q = r
          · subst k
            rcases br.ops q with g | ⟨g, g', f, g''⟩
            · exact .inr (.inl ⟨o, by rw [← g, ho], hd, opq⟩)
            · refine .inr (.inr ⟨g, by rw [w]; exact g', .claiming s.link.nextAcc, f, ?_, .inr rfl⟩)
              rw [ho] at g''
              simp only [Option.some.injEq] at g''
              rw [opq, g'']; rfl
          · have : c.issueClaims.queues.op r = c.queues.op r := by
              rw [ec]; exact QueueUnit.op_setOp_other _ _ _ _ k
            rw [this, w]
            exact (br.ops r).imp_right fun ⟨x, y, f, z⟩ => .inr ⟨x, y, .deferred, f, z, .inl rfl⟩
        taker := by
          have : c.issueClaims.intake = c.intake := by rw [ec]
          rw [this]
          exact rt.imp_right fun x => ⟨.inl x.1, x.2⟩
        takerBegins := by
          have : c.issueClaims.intake = c.intake := by rw [ec]
          rw [this]; exact mt
        notice := by
          have : c.issueClaims.notice = c.notice := by rw [ec]
          rw [this]; exact rn
        noticeBegins := by
          have : c.issueClaims.notice = c.notice := by rw [ec]
          rw [this]; exact mn
        posting := by rw [ec]; exact rp
        custody := by rw [ec]; exact br.custody
        pendingList := by rw [ec]; exact br.pendingList
        readyCounter := by rw [ec]; exact br.readyCounter
        pins := by rw [ec]; exact br.pins
        link := .inr ⟨by rw [← br.lock]; exact mayClaim_lock c mc, q, by simp [State.phaseIs, opq], by
          have a : c.headerAddr q = s.headerAddr q := by
            cases q <;> simp only [State.headerAddr, State.anchorAddr, br.engine]
          rw [ec]
          simp only [na, ri, a]⟩
        claims := fun _ _ _ => by rw [ec]; show c.link.nextAcc + 1 = _; rw [na] }

/-- What the end of an event at Intake and the Queue Unit leaves. -/
theorem Wakes.settleIntake (s before : State) : Wakes s (s.settleIntake before) := by
  unfold State.settleIntake
  by_cases a : s.active = true
  · rw [if_pos a]
    obtain ⟨h, he, hl⟩ := Wakes.begun s before a
    unfold State.completeQuiesce; split
    · rename_i k
      simp only [State.quiesced, Bool.and_eq_true, beq_iff_eq, bne_iff_ne, ne_eq, Bool.not_eq_true'] at k
      have e : s.engine.state = .quiescing := by rw [← he]; exact k.1.1.1.1
      refine { h with
        engine := .inr ⟨e, by simp only [State.stopEngine, he]⟩
        loop := .inr ⟨e, by simp only [State.stopEngine, hl]⟩
        waits := ?_
        ops := ?_
        taker := ?_
        takerBegins := fun k => by simp [State.takerMay, e] at k }
      · intro q hq
        have w := h.waits q hq
        cases q
        · simp only [State.waitsFor, beq_iff_eq] at w; exact absurd w k.1.1.2
        · exact w
        · exact w
      · intro q
        rcases h.ops q with g | g | ⟨g, g', f⟩
        · exact .inl g
        · exact .inr (.inl g)
        · refine .inr (.inr ⟨g, ?_, f⟩)
          cases q
          · simp only [State.waitsFor, beq_iff_eq] at g'; exact absurd g' k.1.1.2
          · exact g'
          · exact g'
      · refine .inr ⟨.inr ⟨e, rfl⟩, ?_⟩
        rcases h.taker with ⟨m, -⟩ | ⟨-, m⟩
        · simp [State.takerMay, e] at m
        · exact m
    · exact h
  · rw [if_neg a]
    exact .refl_inactive s (by simpa using a)

/-- Outside QUIESCING the end of an event at Intake keeps the engine and the Loop Port. -/
theorem Wakes.running {t : State} (h : Wakes s t) (k : s.engine.state ≠ .quiescing) :
    t.engine = s.engine ∧ t.loop = s.loop :=
  ⟨h.engine.resolve_right fun e => k e.1, h.loop.resolve_right fun e => k e.1⟩

/-! ### Both -/

/-- What turns leave of the window: the records that stand in it go on standing first, unless a SWITCH frame is sent. -/
theorem turn_window {s t : State} (rest : List InFlight) (h : s.turn = some t)
    (k : (∃ w, s.loop.window = rest ++ w) ∧ (s.loop.state = .switching → rest = [])) :
    (∃ w, t.loop.window = rest ++ w) ∧ (t.loop.state = .switching → rest = []) := by
  have same : ∀ {u : State}, u.loop = s.loop → (∃ w, u.loop.window = rest ++ w) ∧ (u.loop.state = .switching → rest = []) :=
    fun e => by rw [e]; exact k
  have one : ∀ (u : State) (i : CtxId) (slot : Fin 40), (u.startRequest i slot).loop = u.loop :=
    fun u i slot => ((Carries.refl u).startRequest i slot).loop
  have head : ∀ (u : State) (i : CtxId), (u.startHead i).loop = u.loop := by
    intro u i; unfold State.startHead; split
    · rfl
    · rw [one]; rfl
  unfold State.turn at h
  split at h
  · cases h
    refine same ?_
    unfold State.releaseCtx; split
    · exact ((Carries.refl _).runPrepass _).loop
    · exact ((Carries.refl _).surveyStart _).loop
    · rfl
  · split at h
    · rename_i p; cases h
      refine same ?_
      unfold State.startPending at p
      split at p
      · cases p
      · split at p
        · split at p
          · cases p; rw [head, head]
          · split at p
            · cases p
            · cases p; rw [head]
        · split at p
          · split at p
            · cases p
            · cases p; rw [head]
          · cases p
    · split at h
      · rename_i d; cases h
        have r : rest = [] := by
          obtain ⟨w, hw⟩ := k.1; rw [d.2] at hw
          exact (List.append_eq_nil_iff.1 hw.symm).1
        subst r
        exact ⟨⟨_, rfl⟩, fun _ => rfl⟩
      · split at h
        · cases h
          unfold State.sendOwn; dsimp only; split
          · rename_i e; exact ⟨k.1, fun c => by
              simp [State.transmit, State.issue, State.setLoop, State.count, e] at c⟩
          · rename_i e _
            have r := k.2 e; subst r
            exact ⟨⟨_, rfl⟩, fun _ => rfl⟩
          · exact k
        · unfold State.grant at h
          split at h
          · split at h
            · rename_i i _
              have ng : (s.noteGrant i).loop.window = s.loop.window ∧ (s.noteGrant i).loop.state = s.loop.state := by
                unfold State.noteGrant; split <;> exact ⟨rfl, rfl⟩
              split at h <;> simp only [Option.some.injEq] at h <;> subst h
              · rw [((Carries.refl (s.noteGrant i)).lapse i).loop, ng.1, ng.2]; exact k
              · obtain ⟨w, hw⟩ := k.1
                refine ⟨?_, ?_⟩
                · refine ⟨_, (congrArg (· ++ _) (ng.1.trans hw)).trans (List.append_assoc _ _ _)⟩
                · show (s.noteGrant i).loop.state = _ → _
                  rw [ng.2]; exact k.2
            · cases h
          · cases h

theorem progress_window (rest : List InFlight) (n : Nat) : ∀ s : State,
    (∃ w, s.loop.window = rest ++ w) ∧ (s.loop.state = .switching → rest = []) →
      (∃ w, (Machine.progress n s).loop.window = rest ++ w) ∧ ((Machine.progress n s).loop.state = .switching → rest = []) := by
  induction n with
  | zero => exact fun _ h => h
  | succ n ih =>
    intro s h
    unfold Machine.progress; split
    · rename_i t e; exact ih t (turn_window rest e h)
    · exact h

/-- What the end of an event leaves unchanged. -/
theorem Settles.settle (s before : State) : Settles s (s.settle before) := by
  unfold State.settle; split
  · have h := (Turns.progress Config.eventBound s).reorderMarks s before
    have k := Wakes.settleIntake ((progress Config.eventBound s).reorderMarks s before) before
    have w := progress_window s.loop.window Config.eventBound s
    obtain ⟨cu, ch, re, -⟩ := reorderMarks_eq (progress Config.eventBound s) s before
    have rl : ((progress Config.eventBound s).reorderMarks s before).loop = (progress Config.eventBound s).loop := by rw [re]
    rw [← rl] at w
    generalize (progress Config.eventBound s).reorderMarks s before = z at *
    obtain ⟨l, hl, hl'⟩ := h.issued
    have zz : ∀ x ∈ z.linkZero, x.ofTurn = true := by
      intro x hx
      unfold State.linkZero at hx
      split at hx
      · split at hx
        · split at hx
          · cases hx
          · rw [List.mem_singleton.1 hx]; rfl
        · cases hx
      · cases hx
    have ha : ∀ q, z.headerAddr q = s.headerAddr q := by
      intro q; cases q <;> simp only [State.headerAddr, State.anchorAddr, h.engine]
    have epi : (State.settleIntake z before).notice.episode = s.notice.episode := by
      rcases k.notice with e | ⟨-, e⟩ <;> rw [e, h.notice]
    have loop := k.loop
    refine ⟨k.pending.trans h.pending, ?_, (congrArg _ k.store).trans h.steps, (congrArg _ k.store).trans h.load, ?_, ?_, ?_,
      ?_, k.stations.trans h.stations, k.attention.trans h.attention, epi, k.lock.trans (congrArg _ h.queues),
      k.pins.trans h.pins, ?_, ?_⟩
    · have e := k.engine; rwa [h.engine] at e
    · rcases loop with e | ⟨-, e⟩ <;> rw [e]
      · exact h.stats
      · exact h.stats
    · intro nq st
      have e : (State.settleIntake z before).loop = z.loop :=
        loop.resolve_right fun c => nq (by rw [← h.engine]; exact c.1)
      rw [e]
      exact (w ⟨⟨[], by simp⟩, fun c => by rcases st with st | st <;> rw [st] at c <;> cases c⟩).1
    · rcases loop with e | ⟨q, e⟩
      · exact .inl (by rw [e]; exact h.latch)
      · exact .inr ⟨by rw [← h.engine]; exact q, by rw [e]; rfl⟩
    · rcases loop with e | ⟨-, e⟩ <;> rw [e]
      · exact h.receiver
      · exact h.receiver
    · rcases k.link with e | ⟨-, q, -, e⟩ <;> rw [e, hl]
      · exact ⟨l ++ _, List.append_assoc _ _ _, fun x hx => .inl ((List.mem_append.1 hx).elim (hl' x) (zz x))⟩
      · refine ⟨l ++ (_ ++ _), by simp only [List.append_assoc]; rfl, fun x hx => ?_⟩
        rcases List.mem_append.1 hx with hx | hx
        · exact .inl (hl' x hx)
        · rcases List.mem_append.1 hx with hx | hx
          · exact .inl (zz x hx)
          · rw [List.mem_singleton.1 hx, ha]; exact .inr ⟨_, _, rfl⟩
    · rcases k.link with e | ⟨-, q, -, e⟩ <;> rw [e]
      · exact h.nextAcc
      · exact h.nextAcc.trans (Nat.le_succ _)
  · exact ⟨rfl, .inl rfl, rfl, rfl, rfl, fun _ _ => ⟨[], by simp⟩, .inl rfl, rfl, rfl, rfl, rfl, rfl, rfl,
      ⟨[], by simp, by simp⟩, le_refl _⟩

/-- With nothing to do at Intake and the Queue Unit and no QUIESCE at its end, the end of an event changes nothing. -/
theorem settleIntake_rests (s before : State) (h : s.intakeRests = true) (k : s.quiesced = false) :
    s.settleIntake before = s := by
  simp only [State.intakeRests, State.takerRests, State.posterRests, Bool.and_eq_true, Bool.or_eq_true, bne_iff_ne, ne_eq,
    Bool.not_eq_true', List.isEmpty_iff, Option.isNone_iff_eq_none] at h
  obtain ⟨⟨⟨⟨hb, hd⟩, hp⟩, hn⟩, hq⟩ := h
  have a : s.takerAfter = s := by
    unfold State.takerAfter; rw [if_neg]
    rintro ⟨x, y⟩; rcases hd with hd | hd
    · exact hd x
    · rw [y] at hd; cases hd
  have b : s.post1 = s := by
    unfold State.post1; split
    · rename_i x
      rcases hp with hp | hp
      · rw [x.2] at hp; cases hp
      · rw [hp]
    · rfl
  have r : s.takerReady = false := by simp [State.takerReady, hb]
  have n : s.noticeReady before = false := by simp [State.noticeReady, hn]
  have c : s.beginRemovals before = s := by simp [State.beginRemovals, r, n]
  have d : s.issueClaims = s := by unfold State.issueClaims; rw [hq]; simp
  unfold State.settleIntake State.completeQuiesce
  rw [a, b, c, d, k]; simp

/-- With no turn to take, the end of an event is that of Intake and the Queue Unit. -/
theorem settle_none (s before : State) (h : s.turn = none) : s.settle before = s.settleIntake before := by
  unfold State.settle
  rw [progress_none _ _ h, reorderMarks_none _ _ _ (newlyReady_of_custody s s rfl)]
  unfold State.settleIntake
  split <;> rfl

/-- Outside RUNNING and QUIESCING nothing follows an event. -/
theorem settle_inactive (s before : State) (h : s.active = false) : s.settle before = s := by
  simp [State.settle, h]

/-- At the end of an event with no turn left, only Intake and the Queue Unit go on. -/
theorem turn_none_of_calm (s : State) (h : s.calm = true) : s.turn = none := by
  simp only [State.calm, State.loopWaits, Bool.and_eq_true, Bool.not_eq_true', Bool.or_eq_true, List.isEmpty_iff,
    Bool.and_eq_false_iff, bne_iff_ne, ne_eq] at h
  obtain ⟨⟨⟨⟨hg, hd⟩, hs⟩, hr⟩, hp⟩ := h
  have p : s.startPending = none := by
    unfold State.startPending
    split
    · rfl
    · rename_i l
      rcases hp with hp | ⟨ha, hb⟩
      · exact absurd hp l
      · rw [if_neg ha, if_neg hb]
  have g : s.grant = none := by
    unfold State.grant
    split
    · rename_i c
      rcases hg with hg | hg
      · rw [c] at hg; cases hg
      · have n : s.pick = none := by
          cases e : s.pick with
          | none => rfl
          | some i => rw [e] at hg; cases hg
        rw [n]
    · rfl
  unfold State.turn
  rw [hr]
  simp only [freeOrder_nil, p, g]
  have d : ¬ (s.loop.state = .draining ∧ s.loop.window = []) := by
    rintro ⟨a, b⟩; simp [a, b] at hd
  have o : ¬ (s.loop.sendDue = true ∧ s.loop.transmitting = none) := by
    rintro ⟨a, b⟩; simp [a, b] at hs
  rw [if_neg d, if_neg o]

/-- The end of an event with no turn left: everything but Intake and the Queue Unit stands. -/
theorem Wakes.settle (s before : State) (h : s.calm = true) : Wakes s (s.settle before) := by
  rw [settle_none _ _ (turn_none_of_calm s h)]; exact .settleIntake _ _

/-! ### Grants and SWITCH frames at the end of an event -/

/-- With a turn left, and none after it, the end of the event takes that turn; here one that marks no frame. -/
theorem settle_one (s before t : State) (a : s.active = true) (h : s.turn = some t) (h' : t.turn = none)
    (k : t.intake.custody = s.intake.custody) : s.settle before = t.settleIntake before := by
  unfold State.settle
  rw [if_pos a]
  show State.settleIntake ((Machine.progress (4294967294 + 1 + 1) s).reorderMarks s before) before = _
  simp only [Machine.progress, h, h', reorderMarks_none _ _ _ (newlyReady_of_custody t s k)]

/-- With two turns left, and none after them, the end of the event takes both; here such as mark no frame. -/
theorem settle_two (s before t u : State) (a : s.active = true) (h : s.turn = some t) (h' : t.turn = some u)
    (h'' : u.turn = none) (k : u.intake.custody = s.intake.custody) : s.settle before = u.settleIntake before := by
  unfold State.settle
  rw [if_pos a]
  show State.settleIntake ((Machine.progress (4294967293 + 1 + 1 + 1) s).reorderMarks s before) before = _
  simp only [Machine.progress, h, h', h'', reorderMarks_none _ _ _ (newlyReady_of_custody u s k)]

/-- With no context eligible nothing is picked. -/
theorem pick_none (s : State) (n : ∀ j, (s.ctx j).eligible = false) : s.pick = none := by
  have c : s.pickCadence = none := by
    unfold State.pickCadence
    rw [List.find?_eq_none]
    intro x _; rw [n]; simp
  have r : s.pickRequest = none := by simp [State.pickRequest, n]
  unfold State.pick; rw [c, r]; split <;> rfl

/-- The only eligible context is picked. -/
theorem pick_only (s : State) (i : CtxId) (e : (s.ctx i).eligible = true) (n : ∀ j, j ≠ i → (s.ctx j).eligible = false) :
    s.pick = some i := by
  by_cases h : i.val < 8
  · have c : s.pickCadence = some i := by
      unfold State.pickCadence
      have mem : i ∈ (List.range 8).map fun k => contextOf (s.loop.lastCadence + 1 + Fin.ofNat 8 k) := by
        generalize s.loop.lastCadence = l
        have : ∀ (l : Fin 8) (i : CtxId), i.val < 8 →
            i ∈ (List.range 8).map fun k => contextOf (l + 1 + Fin.ofNat 8 k) := by decide
        exact this l i h
      cases f : (((List.range 8).map fun k => contextOf (s.loop.lastCadence + 1 + Fin.ofNat 8 k)).find? fun i =>
          (s.ctx i).eligible) with
      | none => exact absurd e (List.find?_eq_none.1 f i mem)
      | some j =>
        have := List.find?_some f
        by_contra k
        rw [n j fun c => k (by rw [c])] at this; cases this
    have a : (s.ctx ctxA).eligible = false := n _ fun c => by rw [← c] at h; simp at h
    have b : (s.ctx ctxB).eligible = false := n _ fun c => by rw [← c] at h; simp at h
    have r : s.pickRequest = none := by simp [State.pickRequest, a, b]
    unfold State.pick; rw [c, r]; split <;> rfl
  · have c : s.pickCadence = none := by
      unfold State.pickCadence
      rw [List.find?_eq_none]
      intro x hx
      obtain ⟨k, -, rfl⟩ := List.mem_map.1 hx
      rw [n _ fun c => h (by rw [← c]; exact (s.loop.lastCadence + 1 + Fin.ofNat 8 k).isLt)]; simp
    have r : s.pickRequest = some i := by
      have : i = ctxA ∨ i = ctxB := by
        have : ∀ i : CtxId, ¬ i.val < 8 → i = ctxA ∨ i = ctxB := by decide
        exact this i h
      rcases this with rfl | rfl
      · have b := n ctxB (by decide)
        simp only [State.pickRequest]; rw [e, b]; rfl
      · have a := n ctxA (by decide)
        simp only [State.pickRequest]; rw [e, a]; rfl
    unfold State.pick; rw [c, r]; split <;> rfl

/-- A grant to a context whose station is not BYPASSED sends its COMMAND. -/
theorem grant_sent (s : State) (i : CtxId) (g : s.canGrant = true) (k : s.pick = some i)
    (b : (s.station (s.ctx i).elem.station.toNat).state ≠ .bypassed) : s.grant = some (s.sent i) := by
  unfold State.grant
  rw [if_pos g, k]
  dsimp only
  rw [if_neg b]
  congr 1
  by_cases h : i.val < 8
  · have c : cadenceOf i = some ⟨i.val, h⟩ := by simp [cadenceOf, h]
    unfold State.sent State.sendCommand State.noteGrant
    rw [c]
    by_cases p : s.pickRequest.isSome = true <;>
      simp [State.setLoop, State.enterWindow, State.transmit, State.issue, State.count, State.setCtx, State.ctx,
        Context.command, h, p]
  · have c : cadenceOf i = none := by simp [cadenceOf, h]
    unfold State.sent State.sendCommand State.noteGrant
    rw [c]
    simp [State.setLoop, State.enterWindow, State.transmit, State.issue, State.count, State.setCtx, State.ctx,
      Context.command, h]

/-- At the end of an event that leaves at most one context eligible and no other turn, that context is granted if a grant
can be made, and then only Intake and the Queue Unit go on (R24, R50). -/
theorem Wakes.settle_offered (s before : State) (i : CtxId)
    (d : ¬ (s.loop.state = .draining ∧ s.loop.window = [])) (o : ¬ (s.loop.sendDue = true ∧ s.loop.transmitting = none))
    (r : s.released = []) (p : s.intake.pendingList = [] ∨ ((s.ctx ctxA).state ≠ .idle ∧ (s.ctx ctxB).state ≠ .idle))
    (n : s.canGrant = true → ∀ j, j ≠ i → (s.ctx j).eligible = false)
    (b : s.canGrant = true → (s.ctx i).eligible = true →
      (s.station (s.ctx i).elem.station.toNat).state ≠ .bypassed) :
    Wakes (s.offered i) (s.settle before) := by
  have sp : s.startPending = none := by
    unfold State.startPending
    split
    · rfl
    · rename_i l
      rcases p with p | ⟨ha, hb⟩
      · exact absurd p l
      · rw [if_neg ha, if_neg hb]
  have tn : s.turn = s.grant := by
    unfold State.turn; rw [r]; simp only [freeOrder_nil, sp]; rw [if_neg d, if_neg o]
  unfold State.offered
  by_cases a : s.active = true
  · by_cases g : s.canGrant = true
    · by_cases e : (s.ctx i).eligible = true
      · rw [if_pos ⟨a, g, e⟩]
        have gs := grant_sent s i g (pick_only s i e (n g)) (b g e)
        have st : (s.ctx i).state = .issuing := by
          simp only [Context.eligible, Bool.and_eq_true, beq_iff_eq] at e; exact e.1
        have calm : (s.sent i).turn = none := by
          have cx : ∀ j, (s.sent i).ctx j = if j = i then { s.ctx i with attempts := (s.ctx i).attempts + 1, state := .awaitingReply } else s.ctx j := by
            intro j
            by_cases k : j = i
            · subst k; simp [State.sent, State.ctx]
            · simp only [State.sent, State.ctx, if_neg k]
              exact Vector.getElem_set_ne _ _ (fun c => k (Fin.ext c.symm))
          have r' : (s.sent i).released = [] := by
            simp only [State.released, List.filter_eq_nil_iff] at r ⊢
            intro j hj
            rw [cx]; split
            · simp
            · exact r j hj
          have p' : (s.sent i).intake.pendingList = [] ∨
              (((s.sent i).ctx ctxA).state ≠ .idle ∧ ((s.sent i).ctx ctxB).state ≠ .idle) := by
            rcases p with p | ⟨ha, hb⟩
            · exact .inl p
            · right; rw [cx, cx]; constructor <;> (split; · simp) <;> assumption
          apply turn_none_of_calm
          have g' : (s.sent i).canGrant = false := by simp [State.canGrant, State.sent]
          have d' : ((s.sent i).loop.state == .draining) = false := by
            simp only [State.canGrant, Bool.and_eq_true, beq_iff_eq] at g
            have : (s.sent i).loop.state = s.loop.state := rfl
            rw [this, g.1.1]; rfl
          have t' : (s.sent i).loop.transmitting.isNone = false := rfl
          simp only [State.calm, State.loopWaits, g', d', t', r', Bool.false_and, Bool.and_false, Bool.not_false,
            Bool.true_and, List.isEmpty_nil, Bool.or_eq_true, List.isEmpty_iff, Bool.and_eq_true, bne_iff_ne, ne_eq]
          exact p'
        rw [settle_one s before (s.sent i) a (tn.trans gs) calm rfl]
        exact .settleIntake _ _
      · rw [if_neg fun c => e c.2.2]
        have gn : s.grant = none := by
          unfold State.grant; rw [if_pos g, pick_none]
          intro j; by_cases k : j = i
          · subst k; simpa using e
          · exact n g j k
        rw [settle_none s before (tn.trans gn)]
        exact .settleIntake _ _
    · rw [if_neg fun c => g c.2.1]
      have gn : s.grant = none := by unfold State.grant; rw [if_neg g]
      rw [settle_none s before (tn.trans gn)]
      exact .settleIntake _ _
  · rw [if_neg fun c => a c.1, settle_inactive s before (by simpa using a)]
    exact .refl_inactive s (by simpa using a)

/-- An eligible context leaves something to pick. -/
theorem eligible_false_of_pick (s : State) (h : s.pick = none) (i : CtxId) : (s.ctx i).eligible = false := by
  have c : s.pickCadence = none := by
    unfold State.pick at h; split at h
    · exact (Option.or_eq_none_iff.1 h).2
    · exact (Option.or_eq_none_iff.1 h).1
  have r : s.pickRequest = none := by
    unfold State.pick at h; split at h
    · exact (Option.or_eq_none_iff.1 h).1
    · exact (Option.or_eq_none_iff.1 h).2
  by_cases k : i.val < 8
  · unfold State.pickCadence at c
    have mem : i ∈ (List.range 8).map fun k => contextOf (s.loop.lastCadence + 1 + Fin.ofNat 8 k) := by
      generalize s.loop.lastCadence = l
      have : ∀ (l : Fin 8) (i : CtxId), i.val < 8 →
          i ∈ (List.range 8).map fun k => contextOf (l + 1 + Fin.ofNat 8 k) := by decide
      exact this l i k
    simpa using List.find?_eq_none.1 c i mem
  · have : ∀ i : CtxId, ¬ i.val < 8 → i = ctxA ∨ i = ctxB := by decide
    unfold State.pickRequest at r
    rcases this i k with rfl | rfl
    · cases ha : (s.ctx ctxA).eligible
      · rfl
      · rw [ha] at r; cases hb : (s.ctx ctxB).eligible <;> rw [hb] at r <;> simp at r
    · cases hb : (s.ctx ctxB).eligible
      · rfl
      · rw [hb] at r; cases ha : (s.ctx ctxA).eligible <;> rw [ha] at r <;> simp at r

/-- From a calm state, an event that changes one context and neither the loop nor the load leaves that context to be granted,
if it is eligible and a grant can be made, and then only Intake and the Queue Unit go on (R24, R50). -/
theorem Wakes.settle_changed {s u : State} (before : State) (i : CtxId) (c : Context) (h : s.calm = true)
    (e : u.contexts = s.contexts.set i c) (l : u.loop = s.loop) (d : u.store.load = s.store.load)
    (k : c.state ≠ .checking ∨ c.state = (s.ctx i).state ∧ c.job = (s.ctx i).job)
    (p : u.intake.pendingList = [] ∨ u.intake.pendingList = s.intake.pendingList ∧ c.state ≠ .idle)
    (b : s.canGrant = true → c.eligible = true → (u.station c.elem.station.toNat).state ≠ .bypassed) :
    Wakes (u.offered i) (u.settle before) := by
  simp only [State.calm, State.loopWaits, Bool.and_eq_true, List.isEmpty_iff, Bool.or_eq_true, bne_iff_ne,
    Bool.not_eq_true', Bool.and_eq_false_iff] at h
  obtain ⟨⟨⟨⟨hg, hd⟩, ho⟩, hr⟩, hp⟩ := h
  have ci : u.ctx i = c := by simp [State.ctx, e]
  have cj : ∀ j, j ≠ i → u.ctx j = s.ctx j := fun j q => by
    simp only [State.ctx, e]; exact Vector.getElem_set_ne _ _ fun q' => q (Fin.ext q'.symm)
  have cg : u.canGrant = s.canGrant := by unfold State.canGrant; rw [l]
  apply Wakes.settle_offered
  · rw [l]; rintro ⟨q, q'⟩; rcases hd with hd | hd
    · rw [q] at hd; cases hd
    · rw [q'] at hd; cases hd
  · rw [l]; rintro ⟨q, q'⟩; rcases ho with ho | ho
    · rw [q] at ho; cases ho
    · rw [q'] at ho; cases ho
  · simp only [State.released, List.filter_eq_nil_iff] at hr ⊢
    intro j hj
    rw [d, l]
    by_cases q : j = i
    · subst q; rw [ci]
      rcases k with k | k
      · simp [k]
      · rw [k.1, k.2]; exact hr j hj
    · rw [cj j q]; exact hr j hj
  · rcases p with p | ⟨p, p'⟩
    · exact .inl p
    · rcases hp with hp | hp
      · exact .inl (p.trans hp)
      · right
        constructor
        · by_cases q : ctxA = i
          · subst q; rw [ci]; exact p'
          · rw [cj _ q]; exact hp.1
        · by_cases q : ctxB = i
          · subst q; rw [ci]; exact p'
          · rw [cj _ q]; exact hp.2
  · intro g j q
    rw [cj j q]
    rw [cg] at g
    rcases hg with hg | hg
    · rw [g] at hg; cases hg
    · exact eligible_false_of_pick s (by simpa using hg) j
  · rw [cg, ci]; exact b

/-- A context that is not eligible is not granted. -/
theorem offered_not_eligible (s : State) (i : CtxId) (h : (s.ctx i).eligible = false) : s.offered i = s := by
  simp [State.offered, h]

/-- The same with a context that is not eligible. -/
theorem Wakes.settle_idle {s u : State} (before : State) (i : CtxId) (c : Context) (h : s.calm = true)
    (e : u.contexts = s.contexts.set i c) (l : u.loop = s.loop) (d : u.store.load = s.store.load)
    (k : c.state ≠ .checking ∨ c.state = (s.ctx i).state ∧ c.job = (s.ctx i).job)
    (p : u.intake.pendingList = [] ∨ u.intake.pendingList = s.intake.pendingList ∧ c.state ≠ .idle)
    (b : c.eligible = false) : Wakes u (u.settle before) := by
  have := Wakes.settle_changed before i c h e l d k p (by rw [b]; simp)
  rwa [offered_not_eligible] at this
  simpa [State.ctx, e] using b

/-- A RECONFIGURE stops at the first listed station that needs a SWITCH (R82). -/
theorem switchWalk_first (a : Nat) (r : Reconfigure) (s : State) (l : r.listed a = true)
    (b : ¬ (r.bypass.getLsbD a = true ∧ (s.station a).state = .bypassed)) :
    ∀ fuel k, k ≤ a → a < k + fuel → (∀ j, k ≤ j → j < a → r.listed j = false) →
      switchWalk fuel k r s = s.setLoop fun l =>
        { l with op := some (.reconfigure
                    { r with current := a, retries := s.engine.config.retryLimit, resent := false }),
                 sendDue := true }
  | 0, k, h, h', _ => by omega
  | fuel + 1, k, h, h', n => by
    unfold switchWalk
    by_cases e : k = a
    · subst e; rw [if_neg b, if_pos l]
    · have u := n k (Nat.le_refl _) (by omega)
      rw [if_neg fun c => by simp [Reconfigure.listed, c.1] at u, if_neg (by simp [u])]
      exact switchWalk_first a r s l b fuel (k + 1) (by omega) (by omega) fun j i i' => n j (by omega) i'

/-- With no station left to switch a RECONFIGURE enters SETTLING (R82, R85). -/
theorem switchWalk_none (r : Reconfigure) (s : State) :
    ∀ fuel k, (∀ j, k ≤ j → j < k + fuel → r.listed j = false) →
      switchWalk fuel k r s = (s.setLoop fun l => { l with op := some (.reconfigure r) }).enterSettling
  | 0, _, _ => rfl
  | fuel + 1, k, n => by
    have u := n k (Nat.le_refl _) (by omega)
    unfold switchWalk
    rw [if_neg fun c => by simp [Reconfigure.listed, c.1] at u, if_neg (by simp [u])]
    exact switchWalk_none r s fuel (k + 1) fun j i i' => n j (by omega) (by omega)

/-- In SWITCHING with the SWITCH frame of a RECONFIGURE due and no other turn, the frame goes out or waits for the
transmitter (R47, R82). -/
theorem Wakes.settle_switchSent (s before : State) (x : Reconfigure) (a : s.active = true)
    (st : s.loop.state = .switching) (op : s.loop.op = some (.reconfigure x)) (o : s.loop.sendDue = true)
    (r : s.released = []) (p : s.intake.pendingList = [] ∨ ((s.ctx ctxA).state ≠ .idle ∧ (s.ctx ctxB).state ≠ .idle)) :
    Wakes (s.switchSent x) (s.settle before) := by
  have sp : ∀ t : State, t.intake = s.intake → t.contexts = s.contexts → t.startPending = none := by
    intro t e f
    unfold State.startPending
    rw [e]
    split
    · rfl
    · rename_i l
      rcases p with p | ⟨ha, hb⟩
      · exact absurd p l
      · rw [show t.ctx ctxA = s.ctx ctxA by simp only [State.ctx, f], show t.ctx ctxB = s.ctx ctxB by simp only [State.ctx, f],
          if_neg ha, if_neg hb]
  have rl : ∀ t : State, t.contexts = s.contexts → t.store = s.store → t.loop.op.isNone = s.loop.op.isNone → t.released = [] := by
    intro t e f g
    rw [← r]; unfold State.released State.ctx; rw [e, f, g]
  have dr : ¬ (s.loop.state = .draining ∧ s.loop.window = []) := by rw [st]; simp
  by_cases t : s.loop.transmitting = none
  · have e1 : s.turn = some s.sendOwn := by
      unfold State.turn; rw [r]; simp only [freeOrder_nil, sp s rfl rfl]
      rw [if_neg dr, if_pos ⟨o, t⟩]
    have e2 : s.sendOwn = s.switchSent x := by
      unfold State.sendOwn State.switchSent
      rw [if_pos t]
      simp only [st, op]
      simp [State.setLoop, State.enterWindow, State.transmit, State.issue, State.count, Reconfigure.frame,
        Reconfigure.asked, st]
    have e3 : (s.switchSent x).turn = none := by
      apply turn_none_of_calm
      have q : (s.switchSent x).released = [] := by
        apply rl <;> simp [State.switchSent, t, op]
      have c : (s.switchSent x).canGrant = false := by unfold State.switchSent; rw [if_pos t]; rfl
      have d : ((s.switchSent x).loop.state == .draining) = false := by unfold State.switchSent; rw [if_pos t]; rfl
      have u : (s.switchSent x).loop.sendDue = false := by unfold State.switchSent; rw [if_pos t]
      have ca : (s.switchSent x).ctx = s.ctx := by unfold State.switchSent; rw [if_pos t]; rfl
      have pl : (s.switchSent x).intake = s.intake := by unfold State.switchSent; rw [if_pos t]
      simp only [State.calm, State.loopWaits, c, d, u, q, ca, pl, Bool.false_and, Bool.not_false, Bool.true_and,
        List.isEmpty_nil, Bool.or_eq_true, List.isEmpty_iff, Bool.and_eq_true, bne_iff_ne, ne_eq]
      exact p
    rw [settle_one s before _ a (e1.trans (congrArg _ e2)) e3 (by unfold State.switchSent; rw [if_pos t])]
    exact .settleIntake _ _
  · have e2 : s.switchSent x = s := by
      unfold State.switchSent; rw [if_neg t]
      rw [← st, ← op, ← o]
    rw [e2]
    have e1 : s.turn = none := by
      unfold State.turn; rw [r]; simp only [freeOrder_nil, sp s rfl rfl]
      rw [if_neg dr, if_neg fun c => t c.2]
      unfold State.grant State.canGrant; rw [st]; rfl
    rw [settle_none s before e1]
    exact .settleIntake _ _

/-- Outside RUNNING and QUIESCING nothing follows an event. -/
theorem settleIntake_inactive (s before : State) (h : s.active = false) : s.settleIntake before = s := by
  simp [State.settleIntake, h]

end Sys2Proof.Machine
end

