-- ==== Sys2Proof/Laws/Ops.lean ====
section
/-! SUPPORT. What the shared operations do, each said once: writing a step, finishing a frame, raising a fault, setting a
cause, keeping a record, releasing a lock. -/

namespace Sys2Proof.Machine

open Sys2Proof

/-! ### The program store -/

/-- A step written is the step read at its location. -/
theorem fetchStep_writeStep_same (l : List (Nat × Step)) (i : Nat) (st : Step) :
    fetchStep (writeStep l i st) i = some st := by
  induction l with
  | nil => simp [writeStep, fetchStep]
  | cons e l ih =>
    obtain ⟨j, st'⟩ := e
    unfold writeStep
    split
    · simp [fetchStep]
    · split
      · simp [fetchStep]
      · simp only [fetchStep, if_neg ‹¬ i = j›]; exact ih

/-- A step written changes no other location. -/
theorem fetchStep_writeStep_other (l : List (Nat × Step)) (i k : Nat) (st : Step) (h : k ≠ i) :
    fetchStep (writeStep l i st) k = fetchStep l k := by
  induction l with
  | nil => simp [writeStep, fetchStep, h]
  | cons e l ih =>
    obtain ⟨j, st'⟩ := e
    unfold writeStep
    split
    · simp [fetchStep, h]
    · split
      · rename_i e; subst e; simp [fetchStep, h]
      · simp only [fetchStep]; split
        · rfl
        · exact ih

/-- The locations of a store after a step is written: the old ones and the one written. -/
theorem mem_writeStep (l : List (Nat × Step)) (i k : Nat) (st : Step) :
    k ∈ (writeStep l i st).map Prod.fst ↔ k = i ∨ k ∈ l.map Prod.fst := by
  induction l with
  | nil => simp [writeStep]
  | cons e l ih =>
    obtain ⟨j, st'⟩ := e
    unfold writeStep
    split
    · simp
    · split
      · rename_i e; subst e; simp
      · simp only [List.map_cons, List.mem_cons, ih]; tauto

/-- Writing a step keeps the locations strictly rising. -/
theorem pairwise_writeStep (l : List (Nat × Step)) (i : Nat) (st : Step)
    (h : (l.map Prod.fst).Pairwise (· < ·)) : ((writeStep l i st).map Prod.fst).Pairwise (· < ·) := by
  induction l with
  | nil => simp [writeStep]
  | cons e l ih =>
    obtain ⟨j, st'⟩ := e
    simp only [List.map_cons, List.pairwise_cons] at h
    unfold writeStep
    split
    · rename_i hij
      simp only [List.map_cons, List.pairwise_cons]
      refine ⟨?_, h⟩
      intro k hk
      rcases List.mem_cons.1 hk with rfl | hk
      · exact hij
      · exact hij.trans (h.1 k hk)
    · split
      · rename_i _ e; subst e; simp only [List.map_cons, List.pairwise_cons]; exact h
      · simp only [List.map_cons, List.pairwise_cons]
        refine ⟨?_, ih h.2⟩
        intro k hk
        rcases (mem_writeStep l i k st).1 hk with rfl | hk
        · omega
        · exact h.1 k hk

/-- Writing a step at a location of the store keeps the store's canonical form. -/
theorem Store.wf_writeStep (s : Store) (i : Nat) (st : Step) (h : s.wf = true) (hi : i < Config.storeSize)
    (holds : Vector (Option Hold) 10) (load : Option Load) :
    Store.wf { steps := writeStep s.steps i st, holds, load } = true := by
  simp only [Store.wf, Bool.and_eq_true, decide_eq_true_eq, List.all_eq_true] at h ⊢
  refine ⟨pairwise_writeStep _ _ _ h.1, ?_⟩
  intro e he
  have : e.1 ∈ (writeStep s.steps i st).map Prod.fst := List.mem_map_of_mem he
  rcases (mem_writeStep _ _ _ _).1 this with k | k
  · omega
  · obtain ⟨x, hx, hxe⟩ := List.mem_map.1 k
    rw [← hxe]; exact h.2 x hx

/-! ### Finishing frames -/

/-- A post of some bytes is one more write issued. -/
theorem post_cons (s : State) (a : Addr) (x : Byte) (l : List Byte) : s.post a (x :: l) = s.issue (.write a (x :: l)) := by
  simp [State.post]

/-- Finishing the frame of an occupied slot. -/
theorem finish_eq (s : State) (i : Fin 40) (x : Slot) (d : DoneRecord) (o : Nat) (b : List Byte) (h : s.slot i = some x) :
    s.finish i d o b = s.finished i x d o b := by
  simp only [State.finish, h, State.writeResult, le, le32, List.cons_append, post_cons]
  unfold State.post
  split
  · rename_i e; subst e
    simp only [State.markReady, State.slot, State.issue] at h ⊢
    simp only [h, State.setSlot, State.finished, State.resultWrites, le, le32, List.cons_append]
    simp
  · rename_i e
    simp only [State.markReady, State.slot, State.issue] at h ⊢
    simp only [h, State.setSlot, State.finished, State.resultWrites, if_neg e, le, le32, List.cons_append]
    simp [State.frameAddr]

/-- A request refused. -/
theorem refuse_eq (s : State) (i : Fin 40) (x : Slot) (r : Result) (h : s.slot i = some x) :
    s.refuse i r = s.finished i x { result := r.code } := finish_eq _ _ _ _ _ _ h

/-- Finishing what a free slot would hold changes nothing. -/
theorem finish_none (s : State) (i : Fin 40) (d : DoneRecord) (o : Nat) (b : List Byte) (h : s.slot i = none) :
    s.finish i d o b = s := by simp [State.finish, h]

@[simp] theorem State.finished_pending (s : State) (i : Fin 40) (x : Slot) (d : DoneRecord) (o : Nat) (b : List Byte) : (s.finished i x d o b).pending = s.pending := rfl
@[simp] theorem State.finished_engine (s : State) (i : Fin 40) (x : Slot) (d : DoneRecord) (o : Nat) (b : List Byte) : (s.finished i x d o b).engine = s.engine := rfl
@[simp] theorem State.finished_store (s : State) (i : Fin 40) (x : Slot) (d : DoneRecord) (o : Nat) (b : List Byte) : (s.finished i x d o b).store = s.store := rfl
@[simp] theorem State.finished_contexts (s : State) (i : Fin 40) (x : Slot) (d : DoneRecord) (o : Nat) (b : List Byte) : (s.finished i x d o b).contexts = s.contexts := rfl
@[simp] theorem State.finished_loop (s : State) (i : Fin 40) (x : Slot) (d : DoneRecord) (o : Nat) (b : List Byte) : (s.finished i x d o b).loop = s.loop := rfl
@[simp] theorem State.finished_pendingList (s : State) (i : Fin 40) (x : Slot) (d : DoneRecord) (o : Nat) (b : List Byte) : (s.finished i x d o b).intake.pendingList = s.intake.pendingList := rfl
@[simp] theorem State.finished_slot (s : State) (i : Fin 40) (x : Slot) (d : DoneRecord) (o : Nat) (b : List Byte) :
    (s.finished i x d o b).slot i = some { x with state := .ready, readyNumber := s.intake.readyCounter } := by
  simp [State.finished, State.slot]

@[simp] theorem State.finished_ctx (s : State) (i : Fin 40) (x : Slot) (d : DoneRecord) (o : Nat) (b : List Byte) (j : CtxId) : (s.finished i x d o b).ctx j = s.ctx j := rfl
@[simp] theorem State.finished_cad (s : State) (i : Fin 40) (x : Slot) (d : DoneRecord) (o : Nat) (b : List Byte) (n : Fin 8) : (s.finished i x d o b).cad n = s.cad n := rfl
@[simp] theorem State.finished_calm (s : State) (i : Fin 40) (x : Slot) (d : DoneRecord) (o : Nat) (b : List Byte) : (s.finished i x d o b).calm = s.calm := rfl

/-! ### Windows -/

@[simp] theorem State.inWindow_setSlot (s : State) (i : Fin 40) (x : Option Slot) (rw : Bool) (a : Addr) (n : Nat) : (s.setSlot i x).inWindow rw a n = s.inWindow rw a n := rfl
@[simp] theorem State.runWindowsOk_setSlot (s : State) (i : Fin 40) (x : Option Slot) (b : Body) : (s.setSlot i x).runWindowsOk b = s.runWindowsOk b := rfl

/-! ### Records kept -/

/-- The record of a TAKEN frame is kept in its slot. -/
theorem keepRecord_eq (s : State) (i : Fin 40) (x : Slot) (kind : Byte) (tag : BitVec 64) (body : Body)
    (h : s.slot i = some x) :
    s.keepRecord i { kind, tag, body } = s.setSlot i (some (x.kept kind tag body)) := by
  simp [State.keepRecord, h, Slot.kept]

/-! ### Causes and faults -/

/-- Setting a cause: the message precedes nothing else of the event. -/
theorem setCause_eq (s : State) (c : Cause) :
    s.setCause c =
      { s with
        engine := { s.engine with causes := s.engine.causes ||| c.mask },
        link := { s.link with
          issued := s.link.issued ++ if s.engine.causes = 0 ∧ s.engine.messageEnable then [.message] else [] } } := by
  unfold State.setCause State.sendMessage
  dsimp only
  by_cases h : s.engine.causes = 0
  · by_cases k : s.engine.messageEnable = true
    · rw [if_pos h, if_pos k, if_pos ⟨h, k⟩]; rfl
    · rw [if_pos h, if_neg k, if_neg fun e => k e.2, List.append_nil]
  · rw [if_neg h, if_neg fun e => h e.1, List.append_nil]

/-- A fault raised in STARTING, RUNNING or QUIESCING. -/
theorem raise_eq (s : State) (f : PendingFault) (h : (s.active || s.engine.state == .starting) = true) :
    s.raise f = s.faulted f.code f.detail := by
  rw [State.raise, if_pos h, setCause_eq]; rfl

/-- A fault raised in another engine state is dropped. -/
theorem raise_dropped (s : State) (f : PendingFault) (h : (s.active || s.engine.state == .starting) = false) :
    s.raise f = s := by simp [State.raise, h]

/-- Nothing follows the event that enters FAULTED. -/
theorem settleIntake_faulted (s before : State) (c : FaultCode) (d : BitVec 18) :
    (s.faulted c d).settleIntake before = s.faulted c d := settleIntake_inactive _ _ rfl

/-! ### Locks -/

/-- Issuing a release. -/
theorem releaseLock_eq (s : State) (q : Queue) (f : Option PendingFault) :
    s.releaseLock q f =
      { s with
        queues := { s.queues.setOp q ((s.queues.op q).map fun o => { o with phase := .releasing }) with
                      lock := some { queue := q, release := some s.link.nextAcc, fault := f } },
        link := { nextAcc := s.link.nextAcc + 1,
                  issued := s.link.issued ++ [.compareSwap s.link.nextAcc (s.headerAddr q) 2 0] } } := rfl

end Sys2Proof.Machine
end

