-- ==== Sys2Proof/Tests/Slice0.lean ====
section
/-! SUPPORT. The model's own tests: the ill-formed commands that `Instr.wf` refuses, one or two small tests of one step for
each command, with results worked out by hand from the rule that each names, and for every statement with hypotheses a
state and operands that meet them. -/

set_option Elab.async false

namespace Sys2Proof.Tests

open Sys2Proof Sys2Proof.Machine

/-! ### Small states -/

/-- A configuration: 40 frames from 100000h, a read-only window at 30000h, a read-write one at 40000h. -/
def config : AnchorConfig :=
  { arenaBase := 0x100000, frameCount := 40,
    windows := [{ base := 0x30000, length := 0x1000, readWrite := false, valid := true },
      { base := 0x40000, length := 0x10000, readWrite := true, valid := true }],
    replyTimeout := 100, readyWaitLimit := 10, awaitGap := 50, retryLimit := 1, settleInterval := 1000 }

/-- A RUNNING engine with its taker ASLEEP and the loop in a state; anchor address 1000h. -/
def live (l : LoopState) : State :=
  { State.reset with
    engine := { Engine.afterReset with state := .running, config, messageEnable := true, anchorLow := 0x1000 },
    loop := { LoopPort.afterReset with state := l },
    intake := { Intake.afterReset with taker := .asleep } }

/-- Some frame for the transmitter to be busy with. -/
def busy : LoopFrame := syncFrame 1

/-- The same state in OPEN with the transmitter busy, so that no grant is made. -/
def opened : State :=
  let s := live .opened
  { s with loop := { s.loop with transmitting := some busy } }

/-- The same state with the spare queue's lock held, so that no claim goes out. -/
def locked (s : State) : State :=
  { s with queues := { s.queues with lock := some { queue := .spare, release := none, fault := none } } }

/-- A slot in a state that holds frame 3. -/
def slotIn (st : SlotState) (record : Option Record) (readAcc : Option Nat) : Slot :=
  { index := 3, spare := false, state := st, record, readyNumber := 0, readAcc }

/-- A request frame TAKEN in slot 0, its read outstanding under access 7. -/
def taken (s : State) : State :=
  { locked s with intake := { s.intake with taker := .dispatching }, link := { s.link with nextAcc := 8 } }.setSlot 0
    (some (slotIn .taken none (some 7)))

/-- A body from its fields: byte offset and value. -/
def body (l : List (Nat × Nat)) : Body :=
  BitVec.ofNat 768 (l.foldl (fun n x => n + x.2 * 2 ^ (8 * x.1)) 0)

/-- A READ of station 1, register 2, width 32 under a readiness mode, HALT on error. -/
def readStep (r : Readiness) : Exchange :=
  { station := 1, access := .read, register := 2, width := .w32, readiness := r, goOn := false }

/-- A WRITE of 5 to station 1, not logged, ACCEPT, HALT on error. -/
def writeExchange : Exchange :=
  { station := 1, access := .write (.inline 5) false, register := 2, width := .w8, readiness := .accept, goOn := false }

/-- The store with some steps from location 0 upwards. -/
def withSteps (s : State) (l : List Step) : State :=
  { s with store := { s.store with steps := l.zipIdx.map fun x => (x.2, x.1) } }

/-- Context A at work for a job of the request in slot 1. -/
def atWork (s : State) (st : CtxState) (job : Job) (e : Exchange) : State :=
  ((locked s).setCtx ctxA { Context.zero with state := st, job, owner := 1, elem := e, retries := 1, remaining := 1 }).setSlot 1
    (some { slotIn .running (some { kind := 2, tag := 9, body := 0 }) none with index := 4 })

/-- Cadence 0 in a state, of a program that starts at location 0, with a ring of 16 entries at 40000h. -/
def cadenceIn (s : State) (st : CadState) : State :=
  ((locked s).setCad 0
    { Cadence.zero with
      state := st, lmax := 2, period := 10, ringBase := 0x40000, ringSize := 16, interval := 4, nextBoundary := 4,
      startSlot := 2, trigger := some 0 }).setSlot 2 (some { slotIn .cadence none none with index := 5 })

/-- An operation of the Queue Unit in a phase. -/
def opIn (p : Phase) (frame : Nat) : QueueOp :=
  { phase := p, attempt := 1, timer := none, stall := none, stalled := false, frame }

/-- A COMMAND in flight for a context. -/
def flight (i : CtxId) : InFlight :=
  { sequence := 0, owner := .context i,
    frame := { type := 1, sequence := 0, station := 1, opClass := 1, register := 2, width := 3, ack := false, ready := false,
               data := 0 },
    sendTime := some 0, deadline := some 100 }

/-- The state with a window whose records have just been granted from sequence number 0 on. -/
def inFlight (s : State) (l : List InFlight) : State :=
  { s with loop := { s.loop with window := l, sequence := BitVec.ofNat 3 l.length } }

/-- Whether a command answers a next state that meets a test. -/
def after (c : Instr) (s : State) (p : State → Bool) : Bool :=
  match exec c s with
  | .next t => p t
  | _ => false

/-- What a command issues. -/
def issues (c : Instr) (s : State) (l : List Issue) : Bool := after c s fun t => t.link.issued == l

/-- Whether a command finishes the frame of slot 0 with a result code: its record's first write, and the slot READY. -/
def ends (c : Instr) (s : State) (r : Nat) : Bool :=
  after c s fun t =>
    (t.slot 0).any (fun x => x.state == .ready) &&
      (t.link.issued.any fun x => match x with
        | .write a b => a == 0x100105 && b.head? == some (BitVec.ofNat 8 r)
        | _ => false)

/-! ### Ill-formed commands -/

/-- A write of four bytes to PROMPT is not a REGISTER_WRITE (R166). -/
theorem test_wf_register_write : Instr.wf (.registerWrite 0x10 4 1) = false := by decide +kernel

/-- Kind 12 is CANCEL, not a bad kind (R145). -/
theorem test_wf_bad_kind : Instr.wf (.badKind 0 12 0 0) = false := by decide +kernel

/-- A QUERY of subject LOOP is no QUERY STATIONS (R172). -/
theorem test_wf_query_stations : Instr.wf (.queryStations 0 0 (body [(0x0C, 2)])) = false := by decide +kernel

/-- A QUERY of subject STATIONS is no QUERY LOOP (R172). -/
theorem test_wf_query_loop : Instr.wf (.queryLoop 0 0 (body [(0x0C, 1)])) = false := by decide +kernel

/-- A QUERY of subject HOLDS is no QUERY CADENCES (R172). -/
theorem test_wf_query_cadences : Instr.wf (.queryCadences 0 0 (body [(0x0C, 4)])) = false := by decide +kernel

/-- A QUERY of subject CADENCES is no QUERY HOLDS (R172). -/
theorem test_wf_query_holds : Instr.wf (.queryHolds 0 0 (body [(0x0C, 3)])) = false := by decide +kernel

/-- A REPLY is no returned frame (R56). -/
theorem test_wf_frame_returned : Instr.wf (.frameReturned { busy with type := 2 }) = false := by decide +kernel

/-- The forms that are their rows' own pass. -/
theorem test_wf_passes :
    (Instr.wf (.registerWrite 0x0C 4 1) && Instr.wf (.registerWrite 0x12 2 1) && Instr.wf (.badKind 0 13 0 0) &&
      Instr.wf (.queryLoop 0 0 (body [(0x0C, 2)])) && Instr.wf (.frameReturned { busy with type := 5 })) = true := by decide +kernel

/-! ### Commands -/

/-- Power-on reset leaves every location VACANT and the window not answering (R1, R164). -/
theorem test_power_on_reset :
    after .powerOnReset (withSteps opened [.endStep]) (fun t => t.store.steps == [] && !t.windowAnswers) = true := by
  decide +kernel

/-- A lost link resets the part and stops the window from answering (R164). -/
theorem test_host_link_reset :
    after .hostLinkReset opened (fun t => t.engine.state == .stopped && !t.windowAnswers) = true := by decide +kernel

/-- ENABLE with an anchor address of 1000h issues the anchor read there (R158). -/
theorem test_enable :
    issues .enable { State.reset with engine := { Engine.afterReset with anchorLow := 0x1000 } }
      [.readAnchor 0 0x1000] = true := by decide +kernel

/-- ENABLE with anchor address 0 is ANCHOR BAD, check 1: ENGINE STATUS reads fault code 1 and the check in bits 16-19
(R158, section 11.10). -/
theorem test_enable_zero :
    after .enable State.reset (fun t => t.engineStatus == 0x00010404) = true := by
  decide +kernel

/-- QUIESCE with nothing under way reaches STOPPED in the event (R162). -/
theorem test_quiesce : after .quiesce opened (fun t => t.engine.state == .stopped) = true := by decide +kernel

/-- SOFT RESET keeps the steps (R163). -/
theorem test_soft_reset :
    after .softReset (withSteps opened [.endStep])
      (fun t => t.store.steps == [(0, .endStep)] && t.engine.state == .stopped) = true := by decide +kernel

/-- A PROMPT wakes the taker: the request queue's lock, at anchor address + 10h, is claimed (R124, R142). -/
theorem test_prompt_request : issues .promptRequest opened [.compareSwap 0 0x1010 0 2] = true := by decide +kernel

/-- A PROMPT of the spare queue with no notice due begins nothing (R119). -/
theorem test_prompt_spare : issues .promptSpare opened [] = true := by decide +kernel

/-- A write of 1 to CAUSE clears DONE; with STALL left a message goes out (R169, R170). -/
theorem test_cause_write :
    after (.causeWrite 1) { opened with engine := { opened.engine with causes := 5 } }
      (fun t => t.engine.causes == 4 && t.link.issued == [.message]) = true := by decide +kernel

/-- ANCHOR HIGH is taken in STOPPED and ignored in RUNNING (R166). -/
theorem test_anchor_write :
    (after (.anchorWrite true 7) State.reset (fun t => t.engine.anchorHigh == 7) &&
      after (.anchorWrite true 7) opened (fun t => t.engine.anchorHigh == 0)) = true := by decide +kernel

/-- A write of two bytes to ENGINE COMMAND is ignored (R166). -/
theorem test_register_write : after (.registerWrite 0x08 2 2) opened (fun t => t == opened) = true := by decide +kernel

/-- The anchor block of `config`'s values but one window entry: 16 low bytes, then 40h-11Fh (section 11.2). -/
def anchor : AnchorImage :=
  { low := BitVec.ofNat 128 (0x100000 + 40 * 2 ^ 64),
    high := BitVec.ofNat 1792
      (0x40000 + 0x10000 * 2 ^ 64 + 2 * 2 ^ 128 + 1 * 2 ^ 136 + 100 * 2 ^ 1536 + 10 * 2 ^ 1568 + 50 * 2 ^ 1600 +
        1 * 2 ^ 1632 + 1000 * 2 ^ 1664) }

/-- STARTING, the anchor read outstanding under access 0. -/
def starting : State :=
  { State.reset with
    engine := { Engine.afterReset with state := .starting, anchorLow := 0x1000, anchorRead := some 0 },
    link := { nextAcc := 1, issued := [] } }

/-- A good anchor block brings the engine to RUNNING, and the first SYNC frame carries 5AC39601h (R160, R62). -/
theorem test_anchor_read :
    after (.anchorReadOutcome 0 (some anchor)) starting
      (fun t => t.engine.state == .running && (t.loop.transmitting.map fun f => f.data) == some 0x5AC39601) = true := by
  decide +kernel

/-- A frame count of 1 fails check 3 (R159). -/
theorem test_anchor_read_bad :
    after (.anchorReadOutcome 0 (some { anchor with low := BitVec.ofNat 128 (0x100000 + 2 ^ 64) })) starting
      (fun t => t.engine.state == .faulted && t.engine.faultDetail == anchorDetail 3 0) = true := by decide +kernel

/-- A state with an operation of the request queue, and the taker LOOKING. -/
def looking (p : Phase) : State :=
  { opened with
    queues := { QueueUnit.afterReset with request := some (opIn p 0) },
    intake := { opened.intake with taker := .looking }, link := { nextAcc := 8, issued := [] } }

/-- The same with the part's lock held. -/
def holding (p : Phase) : State :=
  let s := looking p
  { s with queues := { s.queues with lock := some { queue := .request, release := none, fault := none } } }

/-- A claim that finds 0 holds the lock and reads head, tail and count (R126, R130). -/
theorem test_claim_free :
    issues (.lockClaimOutcome 7 (some 0)) (looking (.claiming 7)) [.read 8 0x1014 12] = true := by decide +kernel

/-- A claim that finds the host's lock backs off for 2 microseconds, the stall timer at one second (R126, R127, R128). -/
theorem test_claim_taken :
    after (.lockClaimOutcome 7 (some 1)) (looking (.claiming 7))
      (fun t => t.queues.request.any fun o => o.phase == .backingOff && o.timer == some 2 && o.stall == some 1000000) = true
    := by decide +kernel

/-- After the first backoff the second attempt claims at once (R127). -/
theorem test_backoff :
    issues (.lockBackoffExpiry .request) (looking .backingOff) [.compareSwap 8 0x1010 0 2] = true := by decide +kernel

/-- After the contention pause a new try begins with attempt 1 (R127). -/
theorem test_contention_pause :
    after (.contentionPauseExpiry .request) (looking .paused)
      (fun t => t.queues.request.any fun o => o.attempt == 1 && o.phase == .claiming 8) = true := by decide +kernel

/-- The stall timer's end sets STALL, and LOCK STALL reads 1 (R128, R167). -/
theorem test_stall :
    after (.stallTimerExpiry .request)
      { looking .backingOff with
        queues := { QueueUnit.afterReset with request := some { opIn .backingOff 0 with stall := some 0 } } }
      (fun t => t.engine.causes == 4 && t.lockStall) = true := by decide +kernel

/-- A request queue with frame 3 at its head: its link, at the frame's first byte, is read (R130). -/
theorem test_header_read :
    issues (.headerReadOutcome 7 3 3 1) (holding (.readingHeader 7)) [.read 8 0x100100 4] = true := by decide +kernel

/-- A count of 2 with head 0 and tail 0 fails its check: the lock is released and nothing is written (R132, R133). An empty
report in QUIESCING clears prompt-seen and leaves the taker IDLE (R141, R142). -/
theorem test_header_read_bad :
    (issues (.headerReadOutcome 7 0 0 2) (holding (.readingHeader 7)) [.compareSwap 8 0x1010 2 0] &&
      let s := holding (.readingHeader 7)
      after (.headerReadOutcome 7 0 0 0)
        { s with engine := { s.engine with state := .quiescing }, intake := { s.intake with promptSeen := true } }
        (fun t => t.intake.taker == .idle && !t.intake.promptSeen)) = true := by decide +kernel

/-- The last frame leaves the queue: head 0, tail 0, count 0, the release, and the frame's read (R130, R144). -/
theorem test_link_read :
    issues (.linkReadOutcome 7 0) (holding (.readingLink 7 3 3 1))
      [.write 0x1014 [0, 0, 0, 0], .write 0x1018 [0, 0, 0, 0], .write 0x101C [0, 0, 0, 0], .compareSwap 8 0x1010 2 0,
        .read 9 0x100100 128] = true := by decide +kernel

/-- A spare frame removed in QUIESCING carries no RING NOTICE, kind 33, though a notice is owed: with no entry WAITING it
carries an empty ATTENTION NOTICE, kind 32, result 13 (R116, R120). -/
theorem test_link_read_quiescing :
    let s := holding (.readingLink 7 3 3 1)
    after (.linkReadOutcome 7 0)
      { (s.setCad 3 { s.cad 3 with owed := true }) with
        engine := { s.engine with state := .quiescing },
        queues := { QueueUnit.afterReset with
          spare := s.queues.request, lock := some { queue := .spare, release := none, fault := none } } }
      (fun t => t.link.issued.contains (.write 0x100104 [32, 13, 0, 0])) = true := by decide +kernel

/-- A failed header read releases the lock before the fault (R134). -/
theorem test_queue_read_fail :
    after (.queueReadFail 7) (holding (.readingHeader 7))
      (fun t => t.link.issued == [.compareSwap 8 0x1010 2 0] && t.engine.state == .running) = true := by decide +kernel

/-- A state with the request queue's lock being released under access 7. -/
def releasing : State :=
  { opened with queues := { QueueUnit.afterReset with
      request := some (opIn .releasing 0), lock := some { queue := .request, release := some 7, fault := none } } }

/-- A release that finds 2 frees the lock; one that finds 1 is LOCK RELEASE FAULT naming queue 1 (R129). -/
theorem test_lock_release :
    (after (.lockReleaseOutcome 7 (some 2)) releasing (fun t => t.queues == QueueUnit.afterReset) &&
      after (.lockReleaseOutcome 7 (some 1)) releasing
        (fun t => t.engine.faultCode == .lockReleaseFault && t.engine.faultDetail == 1)) = true := by decide +kernel

/-- The failed read of the TAKEN frame 3 is HOST READ FAULT naming frame 3 and no queue (R144, section 11.10). -/
theorem test_frame_read_fail :
    after (.frameReadFail 7) (taken opened)
      (fun t => t.engine.faultCode == .hostReadFault && t.engine.faultDetail == 12) = true := by decide +kernel

/-- A frame of kind 13 completes BAD KIND, result 1 (R145). -/
theorem test_bad_kind : ends (.badKind 7 13 0 0) (taken opened) 1 = true := by decide +kernel

/-- A LOAD PROGRAM of one step from 30000h to location 5: 16 bytes are read (R6). -/
def loadBody : Body := body [(0, 0x30000), (8, 5), (10, 1)]

theorem test_load_program :
    issues (.loadProgram 7 0 loadBody) (taken opened) [.read 8 0x30000 16] = true := by decide +kernel

/-- A load range that ends above location 2047 is BAD FIELD, result 2 (R6). -/
theorem test_load_program_range :
    ends (.loadProgram 7 0 (body [(0, 0x30000), (8, 2047), (10, 2)])) (taken opened) 2 = true := by decide +kernel

/-- The state with a load of some steps to location 5, its source read outstanding under access 7. -/
def loading (n : Nat) : State :=
  let s := (locked opened).setSlot 0 (some (slotIn .taken (some { kind := 1, tag := 0, body := loadBody }) none))
  { s with store := { s.store with load := some { slot := 0, dest := 5, count := n, written := 0, acc := 7 } } }

/-- The only step of a load, an END step, is written and the load ends DONE, result 0 (R7, R8). -/
theorem test_load_source :
    (after (.loadSourceArrival 7 5) (loading 1) (fun t => t.store.steps == [(5, .endStep)] && t.store.load == none) &&
      ends (.loadSourceArrival 7 5) (loading 1) 0) = true := by decide +kernel

/-- A failed source read ends the load SOURCE FAULT, result 19 (R8). -/
theorem test_load_source_fail : ends (.loadSourceReadFail 7) (loading 1) 19 = true := by decide +kernel

/-- A RUN of a program of one READ step: its output buffer of one entry at 40000h (R37). -/
def runBody : Body := body [(0, 0x40000), (0x10, 1), (0x1C, 6)]

/-- The store with a READ step and the END. -/
def program : State := withSteps opened [.exchange (readStep .accept), .endStep]

theorem test_run :
    after (.run 7 0 runBody) (taken program)
      (fun t => (t.ctx ctxA).state == .issuing && t.store.holds[8] == some { first := 0, last := 1 }) = true := by
  decide +kernel

/-- A RUN of a VACANT location completes VACANT STEP, result 6 (R15, R38). -/
theorem test_run_vacant : ends (.run 7 0 runBody) (taken opened) 6 = true := by decide +kernel

/-- An EXCHANGE body: READ of station 1, register 2, width 32, ACCEPT, HALT (section 11.5). -/
def exchangeBody : Body := body [(0, 1), (1, 1), (2, 1), (3, 2), (4, 3), (5, 1)]

theorem test_exchange :
    after (.exchange 7 0 exchangeBody) (taken opened)
      (fun t => (t.ctx ctxA).elem == readStep .accept && (t.ctx ctxA).state == .issuing) = true := by decide +kernel

/-- A START CADENCE of cadence 0: period 10, phase 5, ring of 16 at 40000h, interval 4 (section 11.4). -/
def startBody : Body := body [(0, 0x40000), (8, 10), (0x0C, 5), (0x10, 16), (0x14, 4)]

/-- The first trigger comes after 5 cadence units of 50 microseconds (R87, R92). -/
theorem test_start_cadence :
    after (.startCadence 7 0 startBody) (taken program)
      (fun t => (t.cad 0).state == .waiting && (t.cad 0).trigger == some 250 && (t.cad 0).lmax == 2) = true := by
  decide +kernel

/-- A STOP of a WAITING cadence brings it to IDLE, and its START frame is finished before the STOP's (R104, R105). -/
theorem test_stop_cadence :
    after (.stopCadence 7 0 0) (taken (cadenceIn opened .waiting))
      (fun t => (t.cad 0).state == .idle && (t.slot 2).any (fun x => x.readyNumber == 0) &&
        (t.slot 0).any (fun x => x.readyNumber == 1)) = true := by decide +kernel

/-- A RELEASE to the producer's index moves the consumer there (R101). -/
theorem test_release :
    after (.release 7 0 (body [(4, 3)]))
      (taken (cadenceIn opened .waiting |>.setCad 0 { (cadenceIn opened .waiting).cad 0 with p := 3 }))
      (fun t => (t.cad 0).c == 3) = true := by decide +kernel

/-- With both request contexts IDLE and two EXCHANGEs pending while the loop is DOWN, the head fails in A and the next entry
starts in B (R23, R148). -/
theorem test_pending_exchanges :
    let x : Slot := slotIn .pending (some { kind := 3, tag := 0, body := exchangeBody }) none
    let s := ((live .down).setSlot 0 (some x)).setSlot 1 (some { x with index := 4 })
    let p : State := { s with intake := { s.intake with pendingList := [0, 1] } }
    (p.startPending.any fun t =>
      (t.ctx ctxA).owner == 0 && (t.ctx ctxB).owner == 1 && (t.ctx ctxA).state == .idle && (t.ctx ctxB).job == .exchange &&
        t.intake.pendingList == []) = true := by decide +kernel

/-- With B IDLE and A about to lapse on a BYPASSED station, the pending head waits for the lapse and starts in A, and the next
entry in B (R24, R148). -/
theorem test_pending_after_lapse :
    let x : Slot := slotIn .pending (some { kind := 3, tag := 0, body := exchangeBody }) none
    let s := (((live .opened).setSlot 0 (some x)).setSlot 1 (some { x with index := 4 })).setSlot 2
      (some { x with index := 5, state := .running })
    let e : Exchange := { readStep .accept with station := 9 }
    let a : Context := { Context.zero with state := .issuing, job := .exchange, owner := 2, elem := e, remaining := 1 }
    let p : State := (s.setCtx ctxA a).modStation 9 fun y => { y with state := .bypassed }
    let t := progress 4 { p with intake := { p.intake with pendingList := [0, 1] } }
    ((t.ctx ctxA).owner == 0 && (t.ctx ctxB).owner == 1 && (t.slot 2).any (fun y => y.state == .ready)) = true := by
  decide +kernel

/-- A SURVEY probes address 1 with CONTROL to register select 63 (R75). -/
def surveyBody : Body := body [(0, 0x40000), (8, 320)]

theorem test_survey :
    after (.survey 7 0 surveyBody) (taken opened)
      (fun t => (t.ctx ctxA).element == 1 && (t.ctx ctxA).elem.register == 63) = true := by decide +kernel

/-- A RECONFIGURE that bypasses station 1. -/
def reconfigureBody : Body := body [(0, 2)]

theorem test_reconfigure :
    after (.reconfigure 7 0 reconfigureBody) (taken (inFlight opened [flight 8])) (fun t => t.loop.state == .draining) = true := by
  decide +kernel

/-- A SET ATTENTION that disables station 2 turns its setting off and its entry HELD (R113). -/
theorem test_set_attention :
    after (.setAttention 7 0 (body [(8, 4)]))
      (taken { opened with
        attention := [{ station := 2, firstCode := 1, lastCode := 1, repeats := 1, arrival := 0, held := false }] })
      (fun t => !(t.station 2).attention && t.attention.all fun e => e.held) = true := by decide +kernel

/-- A LOOP RESTART in OPEN has NO EFFECT, result 13; in DOWN the loop enters SYNCING (R65). -/
theorem test_loop_restart :
    (ends (.loopRestart 7 0 0) (taken opened) 13 &&
      after (.loopRestart 7 0 0) (taken (live .down)) (fun t => t.loop.state == .syncing)) = true := by decide +kernel

/-- A QUERY STATIONS with too small a buffer is SHORT BUFFER, result 4 (R172). -/
theorem test_query_stations :
    ends (.queryStations 7 0 (body [(0, 0x40000), (8, 319), (0x0C, 1)])) (taken opened) 4 = true := by decide +kernel

/-- A QUERY LOOP with the clear flag clears the counters (R175, R176). -/
theorem test_query_loop :
    after (.queryLoop 7 0 (body [(0x0C, 2), (0x0D, 1)]))
      (taken { opened with loop := { opened.loop with stats := { Stats.zero with framesSent := 4 } } })
      (fun t => t.loop.stats == Stats.zero) = true := by decide +kernel

/-- A QUERY CADENCES of a buffer in no window is BAD ADDRESS, result 3 (R172). -/
theorem test_query_cadences :
    ends (.queryCadences 7 0 (body [(0, 0x90000), (8, 640), (0x0C, 3)])) (taken opened) 3 = true := by decide +kernel

/-- A QUERY HOLDS with a buffer is BAD FIELD, without one DONE (R172, R178). -/
theorem test_query_holds :
    (ends (.queryHolds 7 0 (body [(0, 8), (0x0C, 4)])) (taken opened) 2 &&
      ends (.queryHolds 7 0 (body [(0x0C, 4)])) (taken opened) 0) = true := by decide +kernel

/-- A CANCEL of a tag nobody has is NOT FOUND, result 12; a context that awaits its reply is flagged (R42, R150). -/
theorem test_cancel :
    (ends (.cancel 7 0 9) (taken opened) 12 &&
      after (.cancel 7 0 9) (taken (atWork opened .awaitingReply .run (readStep .accept)))
        (fun t => (t.ctx ctxA).cancel == some .cancel)) = true := by decide +kernel

/-- A context in ISSUING whose element takes an input word, its read outstanding under access 7. -/
def reading : State :=
  let s := atWork opened .issuing .run { readStep .accept with access := .write .input false }
  s.setCtx ctxA { s.ctx ctxA with inputRead := some 7 }

/-- The word that arrives is held (R22). -/
theorem test_input_word : after (.inputWordArrival 7 5) reading (fun t => (t.ctx ctxA).held == some 5) = true := by
  decide +kernel

/-- The failed input read halts the RUN with STEP FAILED, result 14 (R22, R34). -/
theorem test_input_fail :
    after (.inputReadFail 7) reading
      (fun t => (t.ctx ctxA).state == .idle && (t.slot 1).any fun x => x.state == .ready) = true := by decide +kernel

/-- A context with its timer run out in a state, at location 0 of a program that goes on with a step and ends. -/
def timed (st : CtxState) (next : Step) : State :=
  let s := atWork (withSteps opened [.pause 1, next, .endStep]) st .run (readStep .accept)
  s.setCtx ctxA { s.ctx ctxA with timer := some 0 }

/-- After a pause the next step begins (R21). -/
theorem test_pause :
    after (.pauseExpiry 8) (timed .paused (.exchange (readStep .stop)))
      (fun t => (t.ctx ctxA).step == 1 && (t.ctx ctxA).state == .issuing) = true := by decide +kernel

/-- After the await gap the context waits in ISSUING (R29). -/
theorem test_await_gap :
    after (.awaitGapExpiry 8) (timed .backingOff .endStep) (fun t => (t.ctx ctxA).state == .issuing) = true := by
  decide +kernel

/-- OPEN with a window of one frame of context A in flight, the transmitter busy. -/
def waiting (job : Job) (e : Exchange) : State :=
  inFlight (atWork opened .awaitingReply job e) [flight 8]

/-- At the end of a transmission a context in ISSUING is granted, and its COMMAND goes out (R24, R50). -/
theorem test_transmit_end :
    issues .frameTransmitEnd (atWork opened .issuing .exchange (readStep .accept)) [.frame (flight 8).frame] = true := by
  decide +kernel

/-- A REPLY to an EXCHANGE completes it DONE (R41), and the station is PRESENT (R73). -/
theorem test_reply :
    after (.replyArrival 0 1 true true 0x1234) (waiting .exchange (readStep .accept))
      (fun t => (t.station 1).state == .present && (t.ctx ctxA).state == .idle) = true := by decide +kernel

/-- A READ's entry goes to the output cursor with its data, step and station (R35, section 11.6). Behind an AWAIT element the
ready-wait grows no more (R30). -/
theorem test_reply_entry :
    (after (.replyArrival 0 1 true true 0x1234) (withSteps (waiting .run (readStep .accept)) [.exchange (readStep .accept), .endStep])
        (fun t => (t.ctx ctxA).entries == 1) &&
      let s := withSteps (waiting .run (readStep .await)) [.exchange (readStep .await), .pause 1, .endStep]
      after (.replyArrival 0 1 true true 0x1234) (s.setCtx ctxA { s.ctx ctxA with readyOn := true })
        (fun t => (t.ctx ctxA).state == .paused && !(t.ctx ctxA).readyOn)) = true := by decide +kernel

/-- The COMMAND itself comes back: no station, ABSENT (R31, R73). -/
theorem test_frame_returned :
    after (.frameReturned (flight 8).frame) (waiting .run (readStep .accept)) (fun t => (t.station 1).state == .absent) = true := by
  decide +kernel

/-- A bad check sends the context back to ISSUING with a retry less (R31, R55). -/
theorem test_bad_check :
    after .badCheckFrame (waiting .run (readStep .accept))
      (fun t => (t.ctx ctxA).state == .issuing && (t.ctx ctxA).retries == 0 && t.loop.stats.checkFailures == 1) = true := by
  decide +kernel

/-- A first ATTENTION of a station makes an entry; address 41 makes none (R110, R111). -/
theorem test_attention :
    (after (.attentionArrival 40 6) opened (fun t => t.attention.map (fun e => e.station) == [40]) &&
      after (.attentionArrival 41 6) opened
        (fun t => t.attention == [] && t.loop.stats.attentionsReceived == 1)) = true := by decide +kernel

/-- SYNCING, its first attempt sent, the SYNC timer run out. -/
def syncing (n : Nat) : State :=
  let s := live .syncing
  { s with loop := { s.loop with attempt := n, syncWaits := true, syncTimer := some 0 } }

/-- The pattern of attempt 2 opens the loop at attempt 2 (R62). -/
theorem test_sync :
    (after (.syncArrival 0x5AC39602) (syncing 2) (fun t => t.loop.state == .opened) &&
      after (.syncArrival 0x5AC39601) (syncing 2) (fun t => t.loop.state == .syncing)) = true := by decide +kernel

/-- A frame of unexpected type in OPEN is a sequence fault and starts a recovery (R57, R60). -/
theorem test_unexpected_type :
    after .unexpectedTypeFrame opened
      (fun t => t.loop.state == .quiet && t.loop.stats.sequenceFaults == 1 && t.loop.stats.recoveries == 1) = true := by
  decide +kernel

/-- Line loss in OPEN leads to QUIET for twice the reply timeout (R59, R60). -/
theorem test_line_loss :
    after .lineLoss opened (fun t => t.loop.state == .quiet && t.loop.quietTimer == some 200) = true := by decide +kernel

/-- A reply timeout abandons the window: the RUN fails with LOOP LOST (R58, R60). -/
theorem test_reply_timeout :
    after .replyTimeout (waiting .run (readStep .accept))
      (fun t => t.loop.window == [] && (t.ctx ctxA).failing.any fun f => f.error == .loopLost) = true := by decide +kernel

/-- The loop in a state with its quiet and settle timers run out. -/
def quietEnd (l : LoopState) : State :=
  let s := live l
  { s with loop := { s.loop with attempt := 1, quietTimer := some 0, settleTimer := some 0 } }

/-- The quiet timer leads to SYNCING (R61). -/
theorem test_quiet_timer :
    after .quietTimerExpiry (quietEnd .quiet) (fun t => t.loop.state == .syncing && t.loop.attempt == 1) = true := by
  decide +kernel

/-- The third attempt's failure takes the loop DOWN, the second's does not (R62, R64). -/
theorem test_sync_timer :
    (after .syncTimerExpiry (syncing 3) (fun t => t.loop.state == .down) &&
      after .syncTimerExpiry (syncing 2) (fun t => t.loop.state == .syncing && t.loop.quietTimer == some 200)) = true := by
  decide +kernel

/-- After the quiet interval the next attempt's frame is sent (R62). -/
theorem test_sync_quiet :
    issues .syncQuietExpiry (quietEnd .syncing) [.frame (syncFrame 2)] = true := by decide +kernel

/-- The settle timer leads to SYNCING (R85). -/
theorem test_settle_timer :
    after .settleTimerExpiry (quietEnd .settling) (fun t => t.loop.state == .syncing) = true := by decide +kernel

/-- A WAITING cadence told of DOWN stops with reason LOOP DOWN (R106). -/
def told (st : CadState) : State :=
  let s := cadenceIn (live .down) st
  s.setCad 0 { s.cad 0 with downNotice := true }

theorem test_cadence_loop_down :
    after .cadenceLoopDownStop (told .waiting)
      (fun t => (t.cad 0).state == .idle && (t.cad 0).reason == .loopDown) = true := by decide +kernel

/-- A trigger with room in the ring starts a run; the next comes after 10 units of 50 microseconds (R92, R93). -/
theorem test_cadence_trigger :
    after (.cadenceTrigger 0) (cadenceIn program .waiting)
      (fun t => (t.cad 0).state == .running && (t.cad 0).runSequence == 1 && (t.cad 0).trigger == some 500 &&
        (t.ctx 0).state == .issuing) = true := by decide +kernel

/-- The released reset input lets the window answer (R164). -/
theorem test_reset_release :
    after .resetInputRelease { State.reset with pins := { State.reset.pins with resetAsserted := true } }
      (fun t => t.windowAnswers) = true := by decide +kernel

/-- The trained link lets the window answer (R164). -/
theorem test_link_trained :
    after .linkTrained { State.reset with pins := { State.reset.pins with linkTrained := false } }
      (fun t => t.windowAnswers) = true := by decide +kernel

/-- An idle microsecond samples the message-enable input (R170; log entry 10). -/
theorem test_message_input :
    (match step opened with
      | .next t => t.engine.messageEnable
      | _ => false) = Config.messageInput 0 := rfl

/-! ### Witnesses: for each statement with hypotheses, states and operands that meet them, clause by clause -/

/-- Whether a step answers a next state. -/
def goesOn (s : State) : Bool :=
  match step s with
  | .next _ => true
  | _ => false

/-- A state with its first `n` slots occupied by RUNNING requests of frames 1 to `n`. -/
def crowded (n : Nat) (s : State) : State :=
  { s with intake := { s.intake with custody := ⟨⟨(List.range 40).map fun k =>
    if k < n then some { slotIn .running none none with index := k + 1 } else none⟩, by simp⟩ } }

/-- The engine FAULTED. -/
def faulted : State := opened.faulted .queueDamaged 0

/-- Four COMMANDs in flight from sequence number 0 on. -/
def fullWindow : List InFlight :=
  (List.range 4).map fun k => { flight (Fin.ofNat 10 k) with sequence := BitVec.ofNat 3 k }

theorem witness_IdleStepPassesMicrosecond :
    (faulted.pending = [] ∧ faulted.live = false) ∧ opened.pending = [] ∧ opened.live = true := by decide +kernel

theorem witness_StepKeepsWindowAndGuard :
    let s := { inFlight opened fullWindow with pending := [.frameTransmitEnd] }
    let t := { s with loop := { s.loop with guard := 8 } }
    goesOn t = true ∧ t.loop.windowOk = true ∧ t.loop.guardOk = true ∧ s.loop.window.length = 4 := by decide +kernel

theorem witness_StepKeepsTables :
    let s := { taken opened with
      attention := [{ station := 40, firstCode := 0, lastCode := 0, repeats := 255, arrival := 0, held := false }],
      store := { opened.store with
        steps := [(2047, .endStep)],
        load := some { slot := 1, dest := 2047, count := 1, written := 0, acc := 7 } },
      pending := [.attentionArrival 40 1] }
    goesOn s = true ∧ s.custodyOk = true ∧ attentionOk s.attention = true ∧ s.store.wf = true ∧ s.store.loadOk = true := by
  decide +kernel

theorem witness_StepKeepsRequesters :
    let s := { looking .backingOff with pending := [.lockBackoffExpiry .request] }
    goesOn s = true ∧ s.requestersOk = true := by decide +kernel

theorem witness_StepAppendsToIssueLog : goesOn { opened with pending := [.promptRequest] } = true := by decide +kernel

theorem witness_OnlyLoadsAndHardResetsWriteStore :
    after (.loadSourceArrival 7 5) (loading 1)
        (fun t => fetchStep t.store.steps 5 != fetchStep (loading 1).store.steps 5) = true ∧
      after .hostLinkReset (withSteps opened [.endStep])
        (fun t => fetchStep t.store.steps 0 != fetchStep (withSteps opened [.endStep]).store.steps 0) = true := by
  decide +kernel

theorem witness_FaultedPartIsFrozen :
    faulted.engine.state = .faulted ∧
      issues (.causeWrite 1) { faulted with link := { faulted.link with issued := [] } } [.message] = true ∧
      issues .promptRequest { faulted with link := { faulted.link with issued := [] } } [] = true := by decide +kernel

theorem witness_StepImagesRoundTrip :
    (Step.block { writeExchange with station := 40, access := .write (.inline 255) true } 0xFFFF).wf = true ∧
      Step.ofImage 5 = some .endStep := by decide +kernel

theorem witness_SoftResetKeepsStepsAndBypass : opened.windowAnswers = true := by decide +kernel

theorem witness_AnchorTakesWritesInStopped :
    (State.reset.windowAnswers = true ∧ State.reset.engine.state = .stopped) ∧
      opened.windowAnswers = true ∧ opened.engine.state ≠ .stopped := by decide +kernel

theorem witness_CauseWriteClearsCauses : opened.windowAnswers = true := by decide +kernel

theorem witness_WindowIgnoresOtherWrites :
    (ignoredWrite 0x08 3 = true ∧ ignoredWrite 0x0C 4 = true ∧ ignoredWrite 0x1F 1 = true) ∧
      ({ opened with pins := { opened.pins with linkTrained := false } }).windowAnswers = false := by decide +kernel

/-- STOPPED with an anchor address. -/
def stopped (low : Word) : State := { State.reset with engine := { Engine.afterReset with anchorLow := low } }

theorem witness_EnableReadsAnchor :
    (opened.windowAnswers = true ∧ opened.engine.state ≠ .stopped) ∧
      ((stopped 0).windowAnswers = true ∧ (stopped 0).engine.state = .stopped ∧ (stopped 0).anchorAddr = 0) ∧
      ((stopped 0x1020).windowAnswers = true ∧ (stopped 0x1020).engine.state = .stopped ∧
        (stopped 0x1020).anchorAddr.toNat % 64 ≠ 0) ∧
      (stopped 0x40).windowAnswers = true ∧ (stopped 0x40).engine.state = .stopped ∧ (stopped 0x40).anchorAddr ≠ 0 ∧
        (stopped 0x40).anchorAddr.toNat % 64 = 0 := by decide +kernel

theorem witness_BadAnchorFaults :
    let at_ := fun (k v : Nat) => { anchor with high := anchor.high + BitVec.ofNat 1792 (v * 2 ^ (8 * (k - 0x40))) }
    (starting.live = true ∧ starting.engine.state = .starting ∧ starting.engine.anchorRead = some 0) ∧
      ({ anchor with low := 0 }.failedCheck = some (3, 0) ∧
        ({ anchor with low := BitVec.ofNat 128 (0x100000 + 65536 * 2 ^ 64) } : AnchorImage).failedCheck = some (3, 0)) ∧
      ((at_ 0xF9 2).failedCheck = some (4, 7) ∧ (at_ 0x50 1).failedCheck = some (4, 0)) ∧
      ((at_ 0x100 20000).failedCheck = some (5, 1) ∧ (at_ 0x110 100000).failedCheck = some (5, 5)) ∧
      ((at_ 0x11F 1).failedCheck = some (6, 0) ∧ anchor.failedCheck = none) ∧
      ¬ (opened.live = true ∧ opened.engine.state = .starting ∧ opened.engine.anchorRead = some 0) := by decide +kernel

theorem witness_GoodAnchorStartsEngine :
    starting.live = true ∧ starting.engine.state = .starting ∧ starting.engine.anchorRead = some 0 ∧
      anchor.failedCheck = none ∧ starting.released = [] ∧ starting.intake.pendingList = [] ∧
      starting.loop.transmitting = none := by decide +kernel

theorem witness_QuiesceStopsWork :
    (State.reset.windowAnswers = true ∧ State.reset.engine.state ≠ .running) ∧
      opened.windowAnswers = true ∧ opened.engine.state = .running ∧ (∀ i, opened.slot i = none) ∧
        opened.intake.taker ≠ .looking ∧ opened.notice.removing = false ∧ opened.queues.lock = none := by decide +kernel

theorem witness_PromptWakesTaker :
    (State.reset.windowAnswers = true ∧ State.reset.engine.state ≠ .running) ∧
      ((looking .backingOff).windowAnswers = true ∧ (looking .backingOff).engine.state = .running ∧
        (looking .backingOff).intake.taker = .looking ∧ (looking .backingOff).takerMay = false) ∧
      (let c := crowded 36 opened;
        let s := { c with intake := { c.intake with taker := .blocked } };
        s.windowAnswers = true ∧ s.engine.state = .running ∧ s.intake.taker = .blocked ∧ s.takerMay = false ∧
          s.takerNow = .blocked) ∧
      (let c := crowded 35 opened;
        let s := { c with intake := { c.intake with pendingList := List.replicate 15 0 } };
        s.windowAnswers = true ∧ s.engine.state = .running ∧ s.intake.taker = .asleep ∧ s.anyTaken = false ∧
          s.intake.pendingList.length = 15 ∧ s.available = 5 ∧ s.intakeRests = true ∧ s.mayClaim = true) ∧
      (let s := { opened with intake := { opened.intake with pendingList := List.replicate 16 0 } };
        s.windowAnswers = true ∧ s.engine.state = .running ∧ s.intake.taker = .asleep ∧ s.intakeRests = true ∧
          s.intake.pendingList.length = 16) ∧
      let s := crowded 36 opened;
      s.windowAnswers = true ∧ s.engine.state = .running ∧ s.intake.taker = .asleep ∧ s.intakeRests = true ∧
        s.available = 4 := by decide +kernel

/-- OPEN with a WAITING attention entry, so that a notice is due. -/
def due : State :=
  { opened with
    attention := [{ station := 1, firstCode := 0, lastCode := 0, repeats := 1, arrival := 0, held := false }],
    notice := { NoticeEngine.afterReset with episode := true } }

theorem witness_PromptBringsSpares :
    (State.reset.windowAnswers = true ∧ State.reset.engine.state ≠ .running) ∧
      (due.windowAnswers = true ∧ due.engine.state = .running ∧ { due.notice with removing := true }.removing = true) ∧
      (opened.windowAnswers = true ∧ opened.engine.state = .running ∧ opened.notice.removing = false ∧
        opened.noticeDue = false) ∧
      (let s := crowded 40 due;
        s.windowAnswers = true ∧ s.engine.state = .running ∧ s.notice.removing = false ∧ s.noticeDue = true ∧
          s.available = 0) ∧
      let s := crowded 39 due;
      s.windowAnswers = true ∧ s.engine.state = .running ∧ s.notice.removing = false ∧ s.noticeDue = true ∧
        s.available = 1 ∧ s.takerRests = true ∧ s.posterRests = true ∧ s.deferredQueues = [] ∧ s.mayClaim = true := by
  decide +kernel

theorem witness_ClaimTakesLockOrBacksOff :
    let s := looking (.claiming 7)
    s.live = true ∧ s.awaiting Phase.claim 7 = some .request ∧ s.queues.op .request = some (opIn (.claiming 7) 0) ∧
      s.active = true ∧ 2 < (3 : Word).toNat := by decide +kernel

theorem witness_BackoffLeadsToNextAttempt :
    let o := fun n : Nat => { opIn .backingOff 0 with attempt := n }
    let s := fun n => { looking .backingOff with queues := { QueueUnit.afterReset with request := some (o n) } }
    let p := looking .paused
    let c := looking (.claiming 7)
    (c.live = true ∧ (c.queues.op .request).isSome = true ∧ c.awaiting Phase.claim 7 = some .request) ∧
      (∀ n ∈ [1, 15], (s n).live = true ∧ (s n).queues.op .request = some (o n) ∧ (o n).phase = .backingOff ∧
        (o n).attempt < 16 ∧ (s n).waitsFor .request = true ∧ (s n).engine.state = .running ∧
        (s n).intakeRests = true ∧ (s n).mayClaim = true) ∧
      ((s 16).live = true ∧ (s 16).queues.op .request = some (o 16) ∧ 16 ≤ (o 16).attempt) ∧
      p.live = true ∧ p.queues.op .request = some (opIn .paused 0) ∧ p.waitsFor .request = true ∧
        p.engine.state = .running ∧ p.intakeRests = true ∧ p.mayClaim = true := by decide +kernel

theorem witness_StallTimerSetsStall :
    let o : QueueOp := { opIn .backingOff 0 with stall := some 0 }
    let s := { opened with queues := { QueueUnit.afterReset with spare := some o } }
    (s.live = true ∧ s.queues.op .spare = some o ∧ o.stall.isSome = true) ∧
      (looking .backingOff).live = true ∧ (looking .backingOff).queues.op .request = some (opIn .backingOff 0) ∧
        (opIn .backingOff 0).stall = none := by decide +kernel

/-- A header read of a queue outstanding under access 7, its lock held. -/
def header (q : Queue) (frame : Nat) : State :=
  { opened with
    queues := { QueueUnit.afterReset.setOp q (some (opIn (.readingHeader 7) frame)) with
                  lock := some { queue := q, release := none, fault := none } },
    link := { nextAcc := 8, issued := [] } }

theorem witness_HeaderReadGoesOn :
    (∀ seen : Bool, ∀ e ∈ [EngineState.running, .quiescing],
      let h := header .request 0
      let s := { h with intake := { h.intake with taker := .looking, promptSeen := seen },
                        engine := { h.engine with state := e } }
      s.live = true ∧ s.awaiting Phase.header 7 = some .request ∧ s.queues.op .request = some (opIn (.readingHeader 7) 0) ∧
        s.intake.promptSeen = seen ∧ s.engine.state = e) ∧
      (∀ episode : Bool, ∀ x ∈ [(39, TakerState.asleep), (38, .looking)],
        let h := crowded x.1 (header .spare 0)
        let s := { h with notice := { removing := true, promptSeen := true, episode }, attention := due.attention,
                          intake := { h.intake with taker := x.2 } }
        let t := crowded (x.1 + 1) s
        s.live = true ∧ s.awaiting Phase.header 7 = some .spare ∧ s.queues.op .spare = some (opIn (.readingHeader 7) 0) ∧
          s.notice.promptSeen = true ∧ s.notice.episode = episode ∧ s.engine.state = .running ∧ s.noticeDue = true ∧
          (if s.intake.taker = .looking then 2 else 1) = s.freeCount ∧
          ¬ (if t.intake.taker = .looking then 2 else 1) ≤ t.freeCount) ∧
      ((3 : Word) ≠ 0 ∧ (3 : Word).toNat ≤ (header .request 0).engine.config.frameCount.toNat ∧
        (40 : Word).toNat ≤ (header .request 0).engine.config.frameCount.toNat) ∧
      (let h := header .done 3;
        let s := ({ h with intake := { h.intake with posting := some 0 } }).setSlot 0 (some (slotIn .ready none none));
        s.live = true ∧ s.awaiting Phase.header 7 = some .done ∧ s.queues.op .done = some (opIn (.readingHeader 7) 3) ∧
          s.engine.config.frameCount ≠ 0 ∧ s.intake.posting = some 0 ∧ s.slot 0 = some (slotIn .ready none none)) ∧
      ((39 : Word).toNat < (header .done 3).engine.config.frameCount.toNat ∧ 3 ≠ (4 : Word).toNat) := by decide +kernel

/-- A link read of a queue outstanding under access 7, its lock held. -/
def linkOf (q : Queue) (frame : Nat) (head tail count : Word) : State :=
  { opened with
    queues := { QueueUnit.afterReset.setOp q (some (opIn (.readingLink 7 head tail count) frame)) with
                  lock := some { queue := q, release := none, fault := none } },
    link := { nextAcc := 8, issued := [] } }

theorem witness_RemovalTakesFrame :
    let s := linkOf .request 0 3 3 1
    let t := linkOf .request 0 3 4 2
    (s.live = true ∧ s.awaiting Phase.link 7 = some .request ∧ s.queues.request = some (opIn (.readingLink 7 3 3 1) 0) ∧
        s.inCustody 3 = false ∧ s.lowestFree = some 0 ∧ (0 : Word).toNat ≤ s.engine.config.frameCount.toNat) ∧
      (t.live = true ∧ t.awaiting Phase.link 7 = some .request ∧ t.queues.request = some (opIn (.readingLink 7 3 4 2) 0) ∧
        t.inCustody 3 = false ∧ t.lowestFree = some 0 ∧ (40 : Word).toNat ≤ t.engine.config.frameCount.toNat ∧
        (40 : Word) ≠ 0 ∧ (4 : Word) ≠ 3 ∧ (40 : Word) ≠ 3 ∧ 2 ≤ (2 : Word).toNat) := by decide +kernel

theorem witness_DamagedOrFailedReadsRelease :
    let h := header .done 3
    let n := h.engine.config.frameCount.toNat
    (h.live = true ∧ h.awaiting Phase.header 7 = some .done ∧ h.queues.op .done = some (opIn (.readingHeader 7) 3)) ∧
      ((3 : Word).toNat ≤ n ∧ (40 : Word).toNat ≤ n ∧ ¬ (41 : Word).toNat ≤ n ∧ ¬ (40 : Word).toNat ≠ n ∧
        ((39 : Word) = 0 ↔ (3 : Word) = 0) ∧ 3 = (3 : Word).toNat) ∧
      (∀ f ∈ [0, 3],
        let s := linkOf .done f 4 5 2
        s.live = true ∧ s.awaiting Phase.header 7 = none ∧ s.awaiting Phase.link 7 = some .done ∧
          s.queues.op .done = some (opIn (.readingLink 7 4 5 2) f)) ∧
      (n < (41 : Word).toNat ∧ (5 : Word) ≠ 4) ∧
      (h.awaiting Phase.header 6 = none ∧ h.awaiting Phase.link 6 = none) ∧
      ((taken opened).live = true ∧ (taken opened).takenBy 7 = some 0 ∧
        (taken opened).slot 0 = some (slotIn .taken none (some 7)) ∧ (taken opened).active = true) ∧
      (taken opened).takenBy 6 = none := by decide +kernel

/-- A removal from the spare queue whose link read is outstanding, with cadences 3 and 7 owing. -/
def owing : State :=
  let s := linkOf .spare 0 3 3 1
  (s.setCad 3 { s.cad 3 with owed := true }).setCad 7 { s.cad 7 with owed := true }

theorem witness_GoodLinkInsertsOrFillsNotice :
    let held : Attention := { station := 2, firstCode := 0, lastCode := 0, repeats := 1, arrival := 0, held := true }
    let waiting : Attention := { held with station := 1, held := false }
    let s := linkOf .spare 0 3 3 1
    (let h := linkOf .done 3 4 5 2;
      let s := ({ h with intake := { h.intake with posting := some 0 } }).setSlot 0 (some (slotIn .ready none none));
      s.live = true ∧ s.awaiting Phase.link 7 = some .done ∧ s.queues.done = some (opIn (.readingLink 7 4 5 2) 3) ∧
        s.intake.posting = some 0 ∧ s.slot 0 = some (slotIn .ready none none)) ∧
      (∀ q ∈ [Queue.request, .spare],
        let s := (linkOf q 0 3 3 1).setSlot 0 (some (slotIn .running none none))
        s.live = true ∧ s.awaiting Phase.link 7 = some q ∧ s.queues.op q = some (opIn (.readingLink 7 3 3 1) 0) ∧
          s.inCustody 3 = true ∧ s.active = true) ∧
      (s.live = true ∧ s.awaiting Phase.link 7 = some .spare ∧ s.queues.op .spare = some (opIn (.readingLink 7 3 3 1) 0) ∧
        (0 : Word).toNat ≤ s.engine.config.frameCount.toNat ∧ s.inCustody 3 = false ∧ s.lowestFree = some 0 ∧
        (∀ n, (s.cad n).owed = false) ∧ ∀ e ∈ s.attention, e.held = true) ∧
      (owing.engine.state ≠ .quiescing ∧ (owing.cad 3).owed = true ∧ (∀ m, m < 3 → (owing.cad m).owed = false) ∧
        owing.awaiting Phase.link 7 = some .spare ∧ owing.inCustody 3 = false ∧ owing.lowestFree = some 0) ∧
      ({ owing with engine := { owing.engine with state := .quiescing } }).live = true ∧
      ({ s with attention := [held, waiting] }).attention = [held] ++ waiting :: [] ∧ held.station ≠ waiting.station := by
  decide +kernel

/-- A survey's probe of address `p + 1` in flight in context A. -/
def probing (p : Fin 40) (free : Bool) : State :=
  let e := identExchange (p.val + 1)
  let s := atWork (if free then live .opened else opened) .awaitingReply .survey e
  inFlight (s.setCtx ctxA { s.ctx ctxA with element := p.val + 1 })
    [{ flight 8 with frame := { (flight 8).frame with station := e.station, opClass := 3, register := 63 } }]

theorem witness_ProbeDecidesStation :
    (∀ p ∈ [(38 : Fin 40), 39], ∀ free : Bool,
      let s := probing p free
      s.live = true ∧ s.loop.state = .opened ∧ (s.loop.window.map fun r => r.owner) = [.context ctxA] ∧ s.released = [] ∧
        s.intake.pendingList = [] ∧
        (s.loop.transmitting.isSome = true ∨ s.loop.sendDue = false ∧ ∀ j, (s.ctx j).eligible = false) ∧
        (s.ctx ctxA).job = .survey ∧ (s.ctx ctxA).cancel = none ∧ (s.ctx ctxA).element = p.val + 1 ∧
        (s.slot (s.ctx ctxA).owner).isSome = true ∧ (∀ r ∈ s.loop.window, r.frame.type = 1) ∧ 0 < (s.ctx ctxA).retries ∧
        (s.station (s.ctx ctxA).elem.station.toNat).state ≠ .bypassed ∧ s.loop.lineLoss = false ∧
        ((s.setCtx ctxA { s.ctx ctxA with retries := 0 }).ctx ctxA).retries = 0) ∧
      ((probing 38 true).stations[(39 : Fin 40)].state ≠ .bypassed) := by decide +kernel

theorem witness_ReleaseFreesLock :
    let f : PendingFault := { code := .queueDamaged, detail := 1 }
    let s := { releasing with queues := { releasing.queues with
      lock := some { queue := .request, release := some 7, fault := some f } } }
    (releasing.live = true ∧ releasing.queues.lock = some { queue := .request, release := some 7, fault := none }) ∧
      s.live = true ∧ s.queues.lock = some { queue := .request, release := some 7, fault := some f } ∧ s.active = true ∧
      (some 1 : Option Word) ≠ some 2 := by decide +kernel

/-- What every statement about a request frame's read asks of its state. -/
def reads (s : State) : Bool :=
  s.live && s.takenBy 7 == some 0 && s.slot 0 == some (slotIn .taken none (some 7)) && s.calm

theorem witness_MalformedRequestsAreRefused :
    (reads (taken opened) = true ∧ reads (taken (live .opened)) = true) ∧
      ((0 : Byte).toNat < 1 ∧ 12 < (13 : Byte).toNat) ∧
      (2048 < (u16 (body [(8, 2047), (10, 2)]) 8).toNat + (u16 (body [(8, 2047), (10, 2)]) 10).toNat ∧
        ¬ (u16 (body [(8, 2048), (10, 1)]) 8).toNat ≤ 2047 ∧ ¬ 1 ≤ (u16 (0 : Body) 10).toNat) ∧
      (zeroAt (body [(0x5F, 1)]) 0x20 64 = false ∧ ¬ (u16 (body [(0x18, 2048)]) 0x18).toNat ≤ 2047 ∧
        ¬ (u32 (body [(0, 16)]) 0x10 = 0 → u64 (body [(0, 16)]) 0 = 0) ∧ ¬ (u64 (body [(0, 8)]) 0).toNat % 16 = 0) ∧
      (¬ (u8 (body [(0x1A, 8)]) 0x1A).toNat ≤ 7 ∧ ¬ (u32 (body [(8, 2000001)]) 8).toNat ≤ 2000000 ∧
        ¬ (u32 (body [(8, 5), (0x0C, 5)]) 0x0C).toNat < (u32 (body [(8, 5), (0x0C, 5)]) 8).toNat ∧
        (∀ k, k < 17 → 16 * 2 ^ k ≠ (u32 (body [(0x10, 24)]) 0x10).toNat) ∧
        ¬ 2 * (u32 (body [(0x10, 16), (0x14, 9)]) 0x14).toNat ≤ (u32 (body [(0x10, 16), (0x14, 9)]) 0x10).toNat) ∧
      (¬ (u8 (8 : Body) 0).toNat ≤ 7 ∧ zeroAt (body [(0x5F, 1)]) 1 95 = false ∧ zeroAt (body [(1, 1)]) 1 3 = false) ∧
      (¬ (u64 (4 : Body) 0).toNat % 8 = 0 ∧ zeroAt (body [(0x0C, 1)]) 0x0C 84 = false) ∧
      ((u64 (0 : Body) 0 = 0 ∧ u64 (0 : Body) 8 = 0) ∧ (u64 (body [(0, 2 ^ 41)]) 0).getLsbD 41 = true ∧
        (u64 (body [(0, 1)]) 0).getLsbD 0 = true ∧ (u64 (body [(0, 2), (8, 2)]) 0).getLsbD 1 = true ∧
        (u64 (body [(0, 2), (8, 2)]) 8).getLsbD 1 = true ∧ ¬ (u8 (body [(0x10, 2)]) 0x10).toNat ≤ 1) ∧
      zeroAt (body [(0x5F, 1)]) 0 96 = false ∧
      (¬ 1 ≤ (u8 (0 : Body) 0x0C).toNat ∧ ¬ (u8 (body [(0x0C, 5)]) 0x0C).toNat ≤ 4 ∧
        ¬ (u8 (body [(0x0C, 1), (0x0D, 1)]) 0x0D = 1 → u8 (body [(0x0C, 1), (0x0D, 1)]) 0x0C = 2) ∧
        ¬ (u64 (body [(0, 4), (0x0C, 3)]) 0).toNat % 8 = 0 ∧ ¬ u64 (body [(0, 8), (0x0C, 4)]) 0 = 0) ∧
      zeroAt (body [(8, 1)]) 8 88 = false := by decide +kernel

theorem witness_LoadIsDecidedByWindowAndHolds :
    let s := taken opened
    let h := s.placeHold 8 { first := 2047, last := 2047 }
    let b := body [(0, 0x30FE0), (8, 2046), (10, 2)]
    (2048 < (u16 (body [(8, 2047), (10, 2)]) 8).toNat + (u16 (body [(8, 2047), (10, 2)]) 10).toNat ∧
        (u16 (0 : Body) 10).toNat = 0) ∧
      (reads s = true ∧ reads h = true ∧ loadFieldsOk b = true ∧ u64 b 0 = 0x30FE0 ∧ (u16 b 8).toNat = 2046 ∧
        (u16 b 10).toNat = 2 ∧ zeroAt b 0x0C 84 = true) ∧
      s.inWindow false 0x30FE8 32 = false ∧
      (h.inWindow false 0x30FE0 32 = true ∧ h.store.heldAt 2047 = true ∧ h.store.heldAt 2046 = false) ∧
      s.inWindow false 0x30FE0 32 = true ∧ ∀ j, 2046 ≤ j → j < 2046 + 2 → s.store.heldAt j = false := by decide +kernel

theorem witness_LoadWritesStepsInOrder :
    (opened.live = true ∧ opened.loading 7 = none) ∧
      ∀ n ∈ [1, 2], (loading n).live = true ∧
        (loading n).loading 7 = some { slot := 0, dest := 5, count := n, written := 0, acc := 7 } ∧
        ((loading n).slot 0).isSome = true ∧ Step.ofImage 5 = some .endStep ∧ Step.ofImage 0 = none ∧
        (loading n).calm = true ∧ ((loading n).ctx ctxA).state ≠ .checking ∧ ((loading n).ctx ctxB).state ≠ .checking := by
  decide +kernel

theorem witness_RequestsWaitOnPendingList :
    let s := taken ((atWork opened .issuing .run (readStep .accept)).setCtx ctxB { Context.zero with state := .paused })
    let q := taken { opened with engine := { opened.engine with state := .quiescing } }
    (reads s = true ∧ s.engine.state ≠ .quiescing ∧ (s.ctx ctxA).state ≠ .idle ∧ (s.ctx ctxB).state ≠ .idle) ∧
      (reads q = true ∧ q.engine.state = .quiescing) ∧
      (runFieldsOk runBody && s.runWindowsOk runBody) = true ∧
      (exchangeStepOk exchangeBody && zeroAt exchangeBody 0x10 80) = true ∧
      (surveyFieldsOk surveyBody && s.inWindow true (u64 surveyBody 0) (u32 surveyBody 8).toNat &&
        decide (320 ≤ (u32 surveyBody 8).toNat)) = true := by decide +kernel

theorem witness_RunStartsInContextA :
    let s := taken program
    let endless := { s with store := { s.store with steps := [(2047, .pause 1)] } }
    let short := body [(0, 0x40000), (0x1C, 6)]
    (reads s = true ∧ s.engine.state ≠ .quiescing ∧ runFieldsOk runBody = true ∧ s.runWindowsOk runBody = true ∧
        (s.ctx ctxA).state = .idle ∧ s.store.load = none) ∧
      prepass (taken opened).store 0 = .vacant 0 ∧
      (reads endless = true ∧ prepass endless.store 2047 = .noEnd 2047) ∧
      (prepass s.store 0 = .complete 1 1 0 ∧ (u32 short 0x10).toNat < 1) ∧
      (1 ≤ (u32 runBody 0x10).toNat ∧ 0 ≤ (u32 runBody 0x14).toNat ∧
        fetchStep s.store.steps 0 = some (.exchange (readStep .accept)) ∧ (readStep .accept).access.isInput = false ∧
        s.loop.state ≠ .down ∧ s.canGrant = false) ∧
      let g := taken (withSteps (live .opened) [.exchange (readStep .accept), .endStep])
      reads g = true ∧ g.canGrant = true ∧ g.engine.state ≠ .quiescing ∧ g.runWindowsOk runBody = true ∧
        (g.ctx ctxA).state = .idle ∧ g.store.load = none ∧ prepass g.store 0 = .complete 1 1 0 ∧
        fetchStep g.store.steps 0 = some (.exchange (readStep .accept)) ∧
        (g.station (readStep .accept).station.toNat).state ≠ .bypassed := by decide +kernel

theorem witness_ExchangeStartsInContextA :
    let s := taken opened
    let d := taken (live .down)
    (reads s = true ∧ reads d = true) ∧
      (exchangeStepOk 0 = false ∧ zeroAt (0 : Body) 0x10 80 = true) ∧
      (exchangeStepOk (body [(0, 1), (1, 1), (2, 1), (3, 2), (4, 3), (5, 1), (0x5F, 1)]) = true ∧
        zeroAt (body [(0x5F, 1)]) 0x10 80 = false) ∧
      (exchangeStepOk (body [(0x10, 1)]) = false ∧ zeroAt (body [(0x10, 1)]) 0x10 80 = false) ∧
      (Step.ofImage (exchangeBody.extractLsb' 0 128) = some (.exchange (readStep .accept)) ∧
        (readStep .accept).access.isInput = false ∧ zeroAt exchangeBody 0x10 80 = true ∧ s.engine.state ≠ .quiescing ∧
        (s.ctx ctxA).state = .idle ∧ s.loop.state ≠ .down ∧ d.engine.state ≠ .quiescing ∧ (d.ctx ctxA).state = .idle ∧
        d.loop.state = .down) ∧
      let g := taken (live .opened)
      reads g = true ∧ g.canGrant = true ∧ g.engine.state ≠ .quiescing ∧ (g.ctx ctxA).state = .idle ∧
        (g.station (readStep .accept).station.toNat).state ≠ .bypassed := by decide +kernel

theorem witness_SurveyStartsInContextA :
    let s := taken opened
    let o := taken { opened with loop := { opened.loop with op := some (.restart 1) } }
    (reads s = true ∧ reads o = true ∧ reads (taken (live .opened)) = true ∧ (taken (live .opened)).canGrant = true ∧ surveyFieldsOk surveyBody = true) ∧
      s.inWindow true (u64 (body [(0, 0x30000), (8, 320)]) 0) 320 = false ∧
      (s.inWindow true 0x40000 319 = true ∧ 319 < 320) ∧
      (s.inWindow true (u64 surveyBody 0) (u32 surveyBody 8).toNat = true ∧ 320 ≤ (u32 surveyBody 8).toNat ∧
        s.engine.state ≠ .quiescing ∧ (s.ctx ctxA).state = .idle ∧ s.loop.op = none ∧ s.loop.state ≠ .down ∧
        (s.station 1).state ≠ .bypassed) ∧
      o.engine.state ≠ .quiescing ∧ (o.ctx ctxA).state = .idle ∧ o.loop.op.isSome = true := by decide +kernel

theorem witness_StartCadenceSetsUpRecord :
    let s := taken program
    let q := { s with engine := { s.engine with state := .quiescing } }
    let input := taken (withSteps opened
      [.exchange { writeExchange with access := .write .input false }, .endStep])
    let one := body [(0, 0x40000), (8, 10), (0x0C, 5), (0x10, 16), (0x14, 1)]
    (reads s = true ∧ reads q = true ∧ startFieldsOk startBody = true ∧ (u8 startBody 0x1A).toNat = 0) ∧
      s.inWindow true 0x4FFF8 (16 * 16) = false ∧
      (s.inWindow true (u64 startBody 0) (16 * (u32 startBody 0x10).toNat) = true ∧ (s.cad 0).state = .idle ∧
        ((taken (cadenceIn program .waiting)).cad 0).state ≠ .idle) ∧
      (prepass (taken opened).store 0 = .vacant 0 ∧
        prepass { s.store with steps := [(2047, .pause 1)] } 2047 = .noEnd 2047) ∧
      (prepass input.store 0 = .complete 1 0 1 ∧ prepass s.store 0 = .complete 1 1 0) ∧
      (startFieldsOk one = true ∧ (u32 one 0x14).toNat < 1 + 1) ∧
      (1 + 1 ≤ (u32 startBody 0x14).toNat ∧ q.engine.state = .quiescing ∧ s.engine.state ≠ .quiescing ∧
        u32 startBody 0x0C ≠ 0) := by decide +kernel

theorem witness_StopCadenceByState :
    let s := taken (cadenceIn opened .waiting)
    let r := (taken (cadenceIn opened .running)).setCtx 0 { Context.zero with state := .awaitingReply, job := .cadence }
    (reads (taken opened) = true ∧ stopFieldsOk 0 = true ∧ (u8 (0 : Body) 0).toNat = 0 ∧ ((taken opened).cad 0).state = .idle) ∧
      (reads s = true ∧ (s.cad 0).state = .waiting ∧ (s.cad 0).startSlot = 2 ∧ (s.slot 2).isSome = true) ∧
      (reads r = true ∧ (r.cad 0).state = .running ∧ (r.ctx (contextOf 0)).state = .awaitingReply ∧
        (r.ctx (contextOf 0)).cancel = none) ∧
      ((taken (cadenceIn opened .stopping)).cad 0).state = .stopping := by decide +kernel

theorem witness_ReleaseMovesConsumer :
    let c := taken (cadenceIn opened .waiting)
    let s := c.setCad 0 { c.cad 0 with p := 1, c := 0xFFFFFFFF }
    let b := fun n : Nat => body [(4, n)]
    7 < (u8 (body [(0, 8)]) 0).toNat ∧
      (reads (taken opened) = true ∧ ((taken opened).cad 0).state = .idle ∧
        ∀ n ∈ [1, 2], (u8 (b n) 0).toNat = 0 ∧ zeroAt (b n) 1 3 = true ∧ zeroAt (b n) 8 88 = true) ∧
      (reads s = true ∧ (s.cad 0).state ≠ .idle ∧
        ((s.cad 0).p - (s.cad 0).c).toNat < (u32 (b 2) 4 - (s.cad 0).c).toNat) ∧
      (u32 (b 1) 4 - (s.cad 0).c).toNat ≤ ((s.cad 0).p - (s.cad 0).c).toNat := by decide +kernel

theorem witness_ReconfigureDrainsLoop :
    let s := taken (inFlight opened [flight 8])
    let o := taken { opened with loop := { opened.loop with op := some (.restart 1) } }
    let q := { s with engine := { s.engine with state := .quiescing } }
    (u64 (0 : Body) 0 = 0 ∧ u64 (0 : Body) 8 = 0) ∧
      (u64 (body [(0, 2 ^ 41)]) 0).getLsbD 41 = true ∧
      reconfigureFieldsOk reconfigureBody = true ∧ (reads o = true ∧ o.loop.op.isSome = true) ∧
      (reads (taken (live .quiet)) = true ∧ (taken (live .quiet)).loop.op = none ∧
        (taken (live .quiet)).loop.state ≠ .opened ∧ (taken (live .quiet)).loop.state ≠ .down) ∧
      (reads (taken (live .down)) = true ∧ (taken (live .down)).loop.op = none ∧ (taken (live .down)).loop.state = .down) ∧
      (reads q = true ∧ q.loop.op = none ∧ q.loop.state = .opened ∧ q.engine.state = .quiescing) ∧
      (reads s = true ∧ s.loop.op = none ∧ s.loop.state = .opened ∧ s.engine.state ≠ .quiescing ∧ s.loop.window ≠ []) ∧
      ∀ l ∈ [taken opened, taken (live .opened)],
        reads l = true ∧ l.loop.op = none ∧ l.loop.state = .opened ∧ l.engine.state ≠ .quiescing ∧ l.active = true ∧
          l.loop.window = [] ∧ (u64 (body [(0, 2 ^ 40)]) 0).getLsbD 40 = true ∧
          (∀ k, k < 40 → (u64 (body [(0, 2 ^ 40)]) 0).getLsbD k = false ∧ (u64 (body [(0, 2 ^ 40)]) 8).getLsbD k = false) ∧
          reconfigureFieldsOk (body [(0, 2 ^ 40)]) = true ∧ (l.station 40).state ≠ .bypassed := by
  decide +kernel

theorem witness_LoopRestartLeavesDown :
    let s := taken (live .down)
    let o := taken { opened with loop := { opened.loop with op := some (.restart 1) } }
    let q := { s with engine := { s.engine with state := .quiescing } }
    restartFieldsOk 0 = true ∧ (reads o = true ∧ o.loop.op.isSome = true) ∧
      (reads (taken opened) = true ∧ (taken opened).loop.op = none ∧ (taken opened).loop.state ≠ .down) ∧
      (reads q = true ∧ q.loop.op = none ∧ q.loop.state = .down ∧ q.engine.state = .quiescing) ∧
      (reads s = true ∧ s.loop.op = none ∧ s.loop.state = .down ∧ s.engine.state = .running ∧
        s.loop.transmitting = none) := by decide +kernel

theorem witness_SetAttentionSetsAndDiscards :
    reads (taken due) = true ∧ attentionFieldsOk (body [(0, 2), (8, 2 ^ 40), (0x10, 1)]) = true := by decide +kernel

theorem witness_QueriesAnswer :
    let s := taken opened
    reads s = true ∧
      (∀ x ∈ [(1, 320), (3, 640)],
        queryFieldsOk (body [(0, 0x30000), (8, x.2), (0x0C, x.1)]) = true ∧ s.inWindow true 0x30000 x.2 = false ∧
        queryFieldsOk (body [(0, 0x40000), (8, x.2 - 1), (0x0C, x.1)]) = true ∧
        s.inWindow true 0x40000 (x.2 - 1) = true ∧ x.2 - 1 < x.2 ∧
        queryFieldsOk (body [(0, 0x40000), (8, x.2), (0x0C, x.1)]) = true ∧ s.inWindow true 0x40000 x.2 = true) ∧
      queryFieldsOk (body [(0x0C, 2), (0x0D, 1)]) = true ∧ queryFieldsOk (body [(0x0C, 2)]) = true ∧
      queryFieldsOk (body [(0x0C, 4)]) = true := by decide +kernel

theorem witness_CancelFindsTag :
    let s := taken opened
    let both := taken ((atWork opened .issuing .run (readStep .accept)).setCtx ctxB { Context.zero with
      state := .paused, job := .run, owner := 1 })
    let p := { both with intake := { both.intake with pendingList := [2] } }.setSlot 2
      (some { slotIn .pending (some { kind := 2, tag := 5, body := 0 }) none with index := 6 })
    let r := taken ((atWork opened .awaitingReply .run (readStep .accept)).setCtx ctxB { Context.zero with owner := 1 })
    cancelFieldsOk 9 = true ∧ cancelFieldsOk 5 = true ∧
      (reads s = true ∧ (s.ctx ctxA).owner = 0 ∧ (s.ctx ctxB).owner = 0 ∧ (∀ i ∈ [ctxA, ctxB], (s.ctx i).state = .idle) ∧
        s.intake.pendingList = [] ∧
        (∀ i ∈ [ctxA, ctxB], s.runsTagged 9 i = false)) ∧
      (reads p = true ∧ (∀ i ∈ [ctxA, ctxB], (p.ctx i).owner ≠ 0 ∧ p.runsTagged 5 i = false) ∧
        0 ∉ p.intake.pendingList ∧ p.intake.pendingList = [2] ∧ (p.slot 2).isSome = true ∧ p.tagged 5 2 = true) ∧
      (reads r = true ∧ (r.ctx ctxA).owner ≠ 0 ∧ (r.ctx ctxB).owner ≠ 0 ∧ r.intake.pendingList = [] ∧
        r.runsTagged 9 ctxA = true ∧ r.runsTagged 9 ctxB = false ∧ (r.ctx ctxA).state = .awaitingReply ∧
        (r.ctx ctxA).cancel = none) := by decide +kernel

theorem witness_InputReadsFeedElements :
    let g := { reading with loop := { reading.loop with transmitting := none } }
    (∀ s ∈ [reading, g], s.live = true ∧ s.calm = true ∧ s.reading 7 = some ctxA ∧ (s.ctx ctxA).job = .run ∧
        (s.ctx ctxA).cancel = none ∧ (s.slot (s.ctx ctxA).owner).isSome = true ∧ s.intake.pendingList = [] ∧
        (s.station (s.ctx ctxA).elem.station.toNat).state ≠ .bypassed) ∧
      reading.canGrant = false ∧ g.canGrant = true ∧ reading.reading 6 = none := by decide +kernel

theorem witness_PausesAndGapsEnd :
    let input : Exchange := { readStep .accept with access := .write .input false }
    let free := fun s : State => { s with loop := { s.loop with transmitting := none } }
    (∀ st ∈ [Step.exchange (readStep .stop), .block (readStep .stop) 0xFFFF, .exchange input, .pause 0xFFFF, .endStep],
      ∀ s ∈ [timed .paused st, free (timed .paused st)],
      s.live = true ∧ s.calm = true ∧ (s.ctx ctxA).state = .paused ∧ (s.ctx ctxA).timer.isSome = true ∧
        (s.ctx ctxA).cancel = none ∧ fetchStep s.store.steps ((s.ctx ctxA).step + 1) = some st ∧ s.loop.state ≠ .down ∧
        (s.ctx ctxA).job = .run ∧ (s.ctx ctxA).failing = none ∧ (s.slot (s.ctx ctxA).owner).isSome = true ∧
        s.intake.pendingList = []) ∧
      ((readStep .stop).access.isInput = false ∧ input.access.isInput = true ∧
        (free (timed .paused .endStep)).canGrant = true ∧
        ((timed .paused .endStep).station (readStep .stop).station.toNat).state ≠ .bypassed) ∧
      (let s := withSteps (timed .paused .endStep) [.pause 1, .mark 7, .pause 2, .endStep];
        s.live = true ∧ s.calm = true ∧ (s.ctx ctxA).job = .run ∧ fetchStep s.store.steps 1 = some (.mark 7) ∧
          fetchStep s.store.steps 2 = some (.pause 2)) ∧
      (let s := (withSteps (cadenceIn opened .running) [.pause 1, .endStep]).setCtx 7
          { Context.zero with state := .paused, job := .cadence, owner := 7, timer := some 0 };
        let t := s.setCad 7 { s.cad 7 with state := .running };
        t.live = true ∧ t.calm = true ∧ (t.ctx 7).state = .paused ∧ (t.ctx 7).timer.isSome = true ∧
          (t.ctx 7).cancel = none ∧ (t.ctx 7).job = .cadence ∧ (t.cad 7).state = .running ∧
          fetchStep t.store.steps ((t.ctx 7).step + 1) = some .endStep) ∧
      (∀ s ∈ [timed .backingOff .endStep, free (timed .backingOff .endStep)],
        s.live = true ∧ s.calm = true ∧ (s.ctx ctxA).state = .backingOff ∧ (s.ctx ctxA).timer.isSome = true ∧
          (s.ctx ctxA).state ≠ .paused) ∧
      ((timed .paused .endStep).ctx ctxB).timer = none := by decide +kernel

/-- A state with a cadence context and both request contexts eligible. -/
def eligible : State :=
  let c : Context := { Context.zero with state := .issuing }
  ((opened.setCtx 7 c).setCtx ctxA c).setCtx ctxB c

theorem witness_ArbiterChoosesNextGrant :
    (∀ i ∈ [(7 : CtxId), ctxA, ctxB], (eligible.ctx i).eligible = true) ∧
      (∀ j, j < 7 → (eligible.ctx (contextOf (eligible.loop.lastCadence + 1 + Fin.ofNat 8 j))).eligible = false) ∧
      (eligible.ctx (contextOf (eligible.loop.lastCadence + 1 + Fin.ofNat 8 7))).eligible = true ∧ eligible.loop.guard < 8 ∧
      (∀ i, (opened.ctx i).eligible = false) ∧
      let s := { eligible with loop := { eligible.loop with transmitting := none } }
      s.pick = some (contextOf (s.loop.lastCadence + 1 + Fin.ofNat 8 7)) ∧ s.grant.isSome = true := by decide +kernel

theorem witness_TransmitEndGrantsNext :
    let s := inFlight (atWork opened .issuing .exchange (readStep .accept)) (fullWindow.take 3)
    (s.live = true ∧ s.released = [] ∧ s.intake.pendingList = [] ∧ s.loop.sendDue = false ∧ s.engine.state = .running ∧
        s.loop.transmitting = some busy ∧ s.loop.state = .opened ∧ s.loop.window.length = 3 ∧ s.pick = some ctxA ∧
        (s.station (s.ctx ctxA).elem.station.toNat).state ≠ .bypassed) ∧
      (let f := inFlight opened fullWindow;
        f.live = true ∧ f.released = [] ∧ f.intake.pendingList = [] ∧ f.loop.sendDue = false ∧
          f.loop.transmitting = some busy ∧ ¬ (f.loop.state = .draining ∧ f.loop.window = []) ∧ f.loop.window.length = 4) ∧
      (live .down).loop.transmitting = none ∧ (live .down).calm = true ∧ (live .down).live = true := by decide +kernel

theorem witness_ReplyIsCountedAndLogged :
    let s := waiting .run (readStep .accept)
    let run := fun (free outstanding : Bool) (e : Exchange) (p : Word) =>
      let o := if free then live .opened else opened
      let c := cadenceIn (withSteps o [.exchange e, .endStep]) .running
      (inFlight (c.setCad 0 { c.cad 0 with p, outstanding }) [flight 0]).setCtx 0
        { Context.zero with state := .awaitingReply, job := .cadence, elem := e, remaining := 1 }
    (s.live = true ∧ s.loop.state = .opened ∧ s.loop.window = [flight 8] ∧ (flight 8).owner = .context ctxA ∧
        (s.ctx ctxA).job = .run ∧ (readStep .accept).access.logged = true) ∧
      ((probing 39 true).loop.state = .opened ∧
        ((probing 39 true).ctx ctxA).element = ((probing 39 true).ctx ctxA).elem.station.toNat) ∧
      (∀ free outstanding : Bool, ∀ x ∈ [(2, false), (3, true)],
        let c := run free outstanding (readStep .accept) (BitVec.ofNat 32 x.1)
        c.live = true ∧ c.loop.state = .opened ∧ c.loop.window = [flight 0] ∧ (flight 0).owner = .context 0 ∧
          (c.ctx 0).job = .cadence ∧ c.released = [] ∧ c.intake.pendingList = [] ∧ (c.ctx 0).cancel = none ∧
          (c.loop.transmitting.isSome = true ∨ c.loop.sendDue = false ∧ ∀ j, (c.ctx j).eligible = false) ∧
          (c.cad 0).state = .running ∧ (c.cad 0).outstanding = outstanding ∧ (c.ctx 0).remaining ≤ 1 ∧
          fetchStep c.store.steps ((c.ctx 0).step + 1) = some .endStep ∧ (c.slot (c.cad 0).startSlot).isSome = true ∧
          (c.ctx 0).elem.goOn = false ∧ ((c.cad 0).p + 1 == (c.cad 0).nextBoundary) = x.2) ∧
      ({ s with loop := { s.loop with state := .draining } }).live = true := by decide +kernel

theorem witness_ReplyEndsOrHoldsElement :
    let at_ := fun (free : Bool) (job : Job) (e : Exchange) (n : Nat) =>
      let s := withSteps (waiting job e) [.endStep, .exchange (readStep .accept)]
      let t := s.setCtx ctxA { s.ctx ctxA with remaining := n }
      { t with loop := { t.loop with transmitting := if free then none else some busy } }
    let on : Exchange := { readStep .accept with goOn := true }
    let input : Exchange := { writeExchange with access := .write .input false }
    (∀ free : Bool, ∀ r ∈ [Readiness.accept, .stop, .await], ∀ job ∈ [Job.exchange, .run],
      let s := at_ free job (readStep r) 1
      s.live = true ∧ s.loop.state = .opened ∧
        (s.loop.transmitting.isSome = true ∨ s.loop.sendDue = false ∧ ∀ j, (s.ctx j).eligible = false) ∧
        s.loop.window = [flight 8] ∧ (flight 8).owner = .context ctxA ∧ s.released = [] ∧ s.intake.pendingList = [] ∧
        (s.ctx ctxA).cancel = none ∧ (s.slot (s.ctx ctxA).owner).isSome = true ∧ (s.ctx ctxA).job = job ∧
        (s.ctx ctxA).shortPending = false ∧ (s.ctx ctxA).elem.goOn = false ∧ (s.ctx ctxA).elem.readiness = r ∧
        fetchStep s.store.steps ((s.ctx ctxA).step + 1) = some (.exchange (readStep .accept)) ∧
        (s.station 1).state ≠ .bypassed ∧ s.engine.config.awaitGap ≠ 0 ∧ 0 < s.engine.config.readyWaitLimit ∧
        (s.ctx ctxA).readyWait < s.engine.config.readyWaitLimit * 1000) ∧
      (∀ e ∈ [on, writeExchange, input], ∀ free : Bool,
        let s := at_ free .run e 2
        s.live = true ∧ s.released = [] ∧ 1 < (s.ctx ctxA).remaining ∧ (s.ctx ctxA).elem = e) ∧
      (on.goOn = true ∧ on.access.logged = true ∧ on.access.isInput = false ∧ writeExchange.access.logged = false ∧
        writeExchange.access.isInput = false ∧ input.access.logged = false ∧ input.access.isInput = true ∧
        input.readiness = .accept) ∧
      (let s := at_ true .run (readStep .await) 1;
        ({ s with engine := { s.engine with config := { config with awaitGap := 0 } } }).released = []) ∧
      let s := waiting .run (readStep .await)
      let t := s.setCtx ctxA { s.ctx ctxA with readyWait := 10000 }
      t.released = [] ∧ t.engine.config.readyWaitLimit * 1000 = (t.ctx ctxA).readyWait := by decide +kernel

theorem witness_ReturnedAndDamagedFrames :
    let s := waiting .run (readStep .accept)
    (s.live = true ∧ s.released = [] ∧ s.intake.pendingList = [] ∧ s.loop.state = .opened ∧
        s.loop.transmitting = some busy ∧ s.loop.window = [flight 8] ∧ (flight 8).owner = .context ctxA ∧
        (flight 8).frame.type = 1 ∧ (s.ctx ctxA).job = .run ∧ (s.ctx ctxA).elem.goOn = false ∧ (s.ctx ctxA).cancel = none ∧
        (s.slot (s.ctx ctxA).owner).isSome = true ∧ 0 < (s.ctx ctxA).retries) ∧
      (opened.live = true ∧ opened.calm = true ∧ opened.released = [] ∧ opened.loop.window = []) ∧
      ((syncing 1).live = true ∧ (syncing 1).calm = true ∧ (syncing 1).loop.syncWaits = true) ∧
      (let d := live .draining;
        let x : Reconfigure := { slot := 0, bypass := 2 ^ 40, restore := 0, current := 0, retries := 0, resent := false,
                                 outcomes := Vector.replicate 40 .unlisted, sent := 0, timedOut := 0 };
        let w := inFlight (atWork { d with loop := { d.loop with op := some (.reconfigure x) } } .awaitingReply .run
          (readStep .accept)) [flight 8];
        w.live = true ∧ w.active = true ∧ w.released = [] ∧ w.loop.state = .draining ∧ w.loop.window = [flight 8] ∧
          0 < (w.ctx ctxA).retries ∧ x.bypass.getLsbD 40 = true ∧
          (∀ k, k < 40 → x.bypass.getLsbD k = false ∧ x.restore.getLsbD k = false) ∧ (w.station 40).state ≠ .bypassed) ∧
      (let f := { s with loop := { s.loop with transmitting := none } };
        f.loop.sendDue = false ∧ (∀ j, (f.ctx j).eligible = false) ∧ (f.station 1).state ≠ .bypassed) ∧
      ((live .quiet).calm = true ∧ (quietEnd .syncing).calm = true ∧ (quietEnd .syncing).loop.syncWaits = false) := by
  decide +kernel

/-- SWITCHING, the SWITCH of a station in flight, of a RECONFIGURE that bypasses it and station 40, or switches them in. -/
def switching (bypass : Bool) (current : Nat := 40) (retries : Nat := 1) : State :=
  let set : BitVec 64 := 2 ^ 40 ||| BitVec.ofNat 64 (2 ^ current)
  let x : Reconfigure :=
    { slot := 0, bypass := if bypass then set else 0, restore := if bypass then 0 else set, current,
      retries, resent := false, outcomes := Vector.replicate 40 .notDone, sent := 1, timedOut := 0 }
  let s := live .switching
  let r : InFlight := { flight 8 with owner := .reconfigure, frame := x.frame 0 }
  inFlight { s with loop := { s.loop with op := some (.reconfigure x) } } [r]

theorem witness_SwitchAnswerDecidesStation :
    ∀ bypass : Bool, ∀ a ∈ [(0 : Fin 40), 39], ∀ retries ∈ [0, 1],
      let s := switching bypass (a.val + 1) retries
      s.live = true ∧ s.active = true ∧ s.released = [] ∧ s.intake.pendingList = [] ∧ s.loop.state = .switching ∧
        s.loop.window.length = 1 ∧ (∀ r ∈ s.loop.window, r.owner = .reconfigure ∧ r.frame.type = 5) ∧
        (s.station 40).state ≠ .bypassed ∧
        s.loop.op.any (fun o => match o with
          | .reconfigure x => x.current == a.val + 1 && !x.resent && x.bypass.getLsbD 40 == bypass && x.retries == retries &&
              (x.bypass.getLsbD 40 || x.restore.getLsbD 40) &&
              (List.range 38).all fun k => !x.bypass.getLsbD (k + 2) && !x.restore.getLsbD (k + 2)
          | _ => false) = true := by decide +kernel

theorem witness_AttentionIsMergedOrAppended :
    due.live = true ∧ due.loop.state = .opened ∧ (∃ e ∈ due.attention, e.station = 1) ∧
      (∀ e ∈ due.attention, e.station ≠ 40) ∧ ¬ (1 ≤ (0 : BitVec 6).toNat) ∧ ¬ ((41 : BitVec 6).toNat ≤ 40) ∧
      (syncing 1).loop.state = .syncing ∧ (syncing 1).loop.syncWaits = true ∧
      (live .down).live = true ∧ (live .down).loop.state = .down := by decide +kernel

theorem witness_MatchingSyncOpensLoop :
    let s := syncing 3
    let r := { s with loop := { s.loop with op := some (.restart 0) } }.setSlot 0 (some (slotIn .loopOp none none))
    (s.live = true ∧ s.loop.state = .syncing ∧ s.loop.syncWaits = true ∧
        (0x5AC39603 : Word) = 0x5AC39600 + BitVec.ofNat 32 s.loop.attempt ∧ s.released = [] ∧ s.intake.pendingList = [] ∧
        (∀ i, (s.ctx i).eligible = false) ∧ s.loop.op = none) ∧
      (r.loop.op = some (.restart 0) ∧ (r.slot 0).isSome = true ∧ r.released = [] ∧
        (∀ i, (r.ctx i).state ≠ .checking ∧ (r.ctx i).eligible = false)) ∧
      (let x : Reconfigure := { slot := 0, bypass := 2, restore := 0, current := 1, retries := 0, resent := false,
                                outcomes := (Vector.replicate 40 .unlisted).set 0 .switched, sent := 1, timedOut := 0 };
        let c := { s with loop := { s.loop with op := some (.reconfigure x) } }.setSlot 0 (some (slotIn .loopOp none none));
        c.live = true ∧ (c.slot x.slot).isSome = true ∧ c.released = [] ∧
          ∀ i, (c.ctx i).state ≠ .checking ∧ (c.ctx i).eligible = false) ∧
      (s.calm = true ∧ (0x5AC39602 : Word) ≠ 0x5AC39600 + BitVec.ofNat 32 s.loop.attempt) ∧
      (live .settling).live = true ∧ (live .settling).calm = true := by decide +kernel

theorem witness_LostOrderStartsRecovery :
    let s := waiting .run (readStep .accept)
    (s.live = true ∧ s.engine.state = .running ∧ s.loop.state = .opened ∧ s.loop.lineLoss = false ∧
        s.loop.window = [flight 8] ∧ (flight 8).deadline.isSome = true ∧
        ¬ ((flight 8).sequence = 1 ∧ (flight 8).frame.station = 1)) ∧
      ({ s with loop := { s.loop with state := .draining } }).live = true ∧
      ((switching true).live = true ∧ (switching true).engine.state = .running ∧ (switching true).loop.state = .switching ∧
        (switching true).released = [] ∧ (switching true).loop.lineLoss = false ∧ (switching true).loop.op.isSome = true ∧
        (∀ r ∈ (switching true).loop.window, r.deadline.isSome = true ∧ r.frame ≠ (flight 8).frame)) ∧
      (flight 8).frame.type = 1 ∧ ((flight 8).frame.type = 5 ↔ (switching true).loop.state ≠ .switching) ∧
      ({ live .quiet with loop := { (live .quiet).loop with lineLoss := true } }).calm = true ∧
      (live .quiet).live = true ∧ (live .quiet).engine.state = .running ∧ (live .quiet).calm = true := by decide +kernel

theorem witness_LoopTimersLeadOn :
    (∀ l ∈ [LoopState.quiet, .settling, .syncing],
      let s := quietEnd l
      s.live = true ∧ s.engine.state = .running ∧ s.calm = true ∧ s.loop.transmitting = none ∧ s.loop.state = l ∧
        s.loop.quietTimer.isSome = true ∧ s.loop.settleTimer.isSome = true ∧ s.loop.afterQuiet = .syncing ∧
        s.loop.syncWaits = false) ∧
      (∀ n ∈ [2, 3],
        let s := syncing n
        s.live = true ∧ s.engine.state = .running ∧ s.calm = true ∧ s.loop.state = .syncing ∧ s.loop.syncWaits = true ∧
          s.loop.syncTimer.isSome = true ∧ s.loop.attempt = n ∧ s.loop.op = none ∧
          ∀ i, (s.ctx i).waitsToSend = false) ∧
      (let q := quietEnd .quiet;
        let x : Reconfigure := { slot := 0, bypass := 0, restore := 2 ^ 40, current := 0, retries := 0, resent := false,
                                 outcomes := Vector.replicate 40 .unlisted, sent := 0, timedOut := 0 };
        let w := { q with loop := { q.loop with afterQuiet := .switching, op := some (.reconfigure x) } };
        w.live = true ∧ w.calm = true ∧ w.loop.state = .quiet ∧ w.loop.quietTimer.isSome = true ∧ w.loop.window = [] ∧
          x.restore.getLsbD 40 = true ∧ (∀ k, k < 40 → x.bypass.getLsbD k = false ∧ x.restore.getLsbD k = false) ∧
          x.bypass.getLsbD 40 = false) ∧
      (let q := quietEnd .settling; ({ q with loop := { q.loop with transmitting := some busy } }).calm = true) ∧
      (let r := { syncing 3 with loop := { (syncing 3).loop with op := some (.restart 0) } }.setSlot 0
          (some (slotIn .loopOp none none));
        r.live = true ∧ r.calm = true ∧ (r.slot 0).isSome = true ∧ ∀ i, (r.ctx i).state ≠ .checking) ∧
      (let w := atWork (syncing 3) .backingOff .run (readStep .await);
        w.live = true ∧ w.calm = true ∧ w.loop.op = none ∧ (w.ctx ctxA).waitsToSend = true ∧
          (∀ j, j ≠ ctxA → (w.ctx j).waitsToSend = false) ∧ (w.ctx ctxA).job = .run ∧ (w.ctx ctxA).cancel = none ∧
          (w.slot (w.ctx ctxA).owner).isSome = true ∧ w.intake.pendingList = []) ∧
      (live .down).live = true ∧ (live .down).calm = true ∧ (live .down).loop.quietTimer = none := by decide +kernel

theorem witness_TriggerStartsRunOrCountsMiss :
    let w := cadenceIn program .waiting
    let full := w.setCad 0 { w.cad 0 with p := 15 }
    let room := w.setCad 0 { w.cad 0 with p := 14 }
    (room.live = true ∧ room.calm = true ∧ (room.cad 0).trigger.isSome = true ∧ (room.cad 0).state = .waiting ∧
        (room.cad 0).lmax.toNat = (room.cad 0).ringSize.toNat - ((room.cad 0).p - (room.cad 0).c).toNat ∧
        fetchStep room.store.steps (room.cad 0).programStart.toNat = some (.exchange (readStep .accept)) ∧
        (readStep .accept).access.isInput = false ∧ room.loop.state ≠ .down) ∧
      (full.live = true ∧ full.calm = true ∧ (full.cad 0).missLimit = 0 ∧
        (full.cad 0).ringSize.toNat - ((full.cad 0).p - (full.cad 0).c).toNat < (full.cad 0).lmax.toNat) ∧
      ((cadenceIn program .running).calm = true ∧ (cadenceIn program .stopping).calm = true) ∧
      (let g := { room with loop := { room.loop with transmitting := none } };
        g.calm = true ∧ g.canGrant = true ∧ (g.station 1).state ≠ .bypassed) ∧
      (∀ st ∈ [CadState.waiting, .running],
        let c := cadenceIn program st
        let m := (c.setCad 0 { c.cad 0 with p := 15, missLimit := 255, consecutive := 254 }).setCtx 0
          { Context.zero with state := if st = .running then .awaitingReply else .idle, job := .cadence }
        m.live = true ∧ m.calm = true ∧ (m.cad 0).state = st ∧ (m.cad 0).missLimit ≠ 0 ∧
          satInc (m.cad 0).consecutive = (m.cad 0).missLimit.setWidth 32 ∧ (m.slot (m.cad 0).startSlot).isSome = true ∧
          (m.ctx (contextOf 0)).cancel = none) ∧
      ((w.cad 1).trigger = none) := by decide +kernel

theorem witness_LoopDownStopsCadence :
    let s := told .waiting
    let r := (told .running).setCtx 0 { Context.zero with state := .awaitingReply, job := .cadence }
    ((live .down).live = true ∧ (live .down).calm = true ∧ (∀ m, ((live .down).cad m).downNotice = false)) ∧
      (s.live = true ∧ s.calm = true ∧ (∀ m, m ≠ 0 → (s.cad m).downNotice = false) ∧ (s.cad 0).downNotice = true ∧
        (s.cad 0).state = .waiting ∧ (s.cad 0).startSlot = 2 ∧ (s.slot 2).isSome = true) ∧
      (r.live = true ∧ r.calm = true ∧ (r.cad 0).downNotice = true ∧ (r.cad 0).state = .running ∧
        (r.ctx (contextOf 0)).state = .awaitingReply ∧ (r.ctx (contextOf 0)).cancel = none) := by decide +kernel

end Sys2Proof.Tests
end

section
/-! What the commands do to the tables: the store's steps and load, the attention set, and the frames in custody. -/

namespace Sys2Proof.Machine

open Sys2Proof

/-- The tables of a state: the steps and the load of the store, the attention set, and which arena index each custody slot
holds. -/
structure Tables where
  steps : List (Nat × Step)
  load : Option Load
  attention : List Attention
  frames : Vector (Option Nat) 40

/-- The tables that a state holds. -/
def State.tables (s : State) : Tables :=
  { steps := s.store.steps, load := s.store.load, attention := s.attention,
    frames := s.intake.custody.map (Option.map Slot.index) }

/-! ### Updates that leave the tables -/

section
variable (s : State)

@[simp] theorem tables_setCtx (i : CtxId) (c : Context) : (s.setCtx i c).tables = s.tables := rfl
@[simp] theorem tables_setCad (n : Fin 8) (c : Cadence) : (s.setCad n c).tables = s.tables := rfl
@[simp] theorem tables_setLoop (f : LoopPort → LoopPort) : (s.setLoop f).tables = s.tables := rfl
@[simp] theorem tables_setNotice (f : NoticeEngine → NoticeEngine) : (s.setNotice f).tables = s.tables := rfl
@[simp] theorem tables_setOp (q : Queue) (o : Option QueueOp) : (s.setOp q o).tables = s.tables := rfl
@[simp] theorem tables_placeHold (i : CtxId) (h : Hold) : (s.placeHold i h).tables = s.tables := rfl
@[simp] theorem tables_dropHold (i : CtxId) : (s.dropHold i).tables = s.tables := rfl
@[simp] theorem tables_issue (x : Issue) : (s.issue x).tables = s.tables := rfl
@[simp] theorem tables_access (x : Nat → Issue) : (s.access x).tables = s.tables := rfl
@[simp] theorem tables_count (f : Stats → Stats) : (s.count f).tables = s.tables := rfl
@[simp] theorem tables_chose {α : Type} (l : List α) : (s.chose l).tables = s.tables := rfl

/-- A change of the blocks that hold none of the tables. -/
theorem tables_with (p : List Instr) (e : Engine) (c : Vector Context 10) (l : LoopPort) (st : Vector Station 40)
    (cd : Vector Cadence 8) (n : NoticeEngine) (q : QueueUnit) (k : Link) (pn : Pins) (ch : Nat) :
    ({ s with pending := p, engine := e, contexts := c, loop := l, stations := st, cadences := cd, notice := n,
              queues := q, link := k, pins := pn, choices := ch } : State).tables = s.tables := rfl

@[simp] theorem tables_setIntake (f : Intake → Intake) (h : (f s.intake).custody = s.intake.custody) :
    (s.setIntake f).tables = s.tables := by
  simp [State.tables, State.setIntake, h]

/-- Taking the steps of a fold that each leave the tables leaves the tables. -/
theorem tables_foldl {α : Type} (f : State → α → State) (h : ∀ s a, (f s a).tables = s.tables) (l : List α) :
    (l.foldl f s).tables = s.tables := by
  induction l generalizing s with
  | nil => rfl
  | cons a l ih => rw [List.foldl_cons, ih, h]

@[simp] theorem tables_modStation (a : Nat) (f : Station → Station) : (s.modStation a f).tables = s.tables := by
  unfold State.modStation; split <;> rfl

@[simp] theorem tables_post (a : Addr) (b : List Byte) : (s.post a b).tables = s.tables := by
  unfold State.post; split <;> simp

@[simp] theorem tables_setCause (c : Cause) : (s.setCause c).tables = s.tables := by
  rw [setCause_eq]; rfl

@[simp] theorem tables_raise (f : PendingFault) : (s.raise f).tables = s.tables := by
  unfold State.raise; split
  · rw [tables_setCause]; rfl
  · rfl

/-! ### Custody -/

/-- Writing a slot that holds the same frame leaves the tables. -/
theorem tables_setSlot (i : Fin 40) (x y : Slot) (h : s.slot i = some x) (k : y.index = x.index) :
    (s.setSlot i (some y)).tables = s.tables := by
  have e : s.intake.custody[i.val] = some x := h
  simp only [State.tables, State.setSlot, Vector.map_set, Option.map_some, k]
  congr 1
  ext1 j hj
  by_cases c : i.val = j
  · subst c; simp [e]
  · simp [Vector.getElem_set_ne _ _ c]

@[simp] theorem tables_setSlotState (i : Fin 40) (st : SlotState) : (s.setSlotState i st).tables = s.tables := by
  unfold State.setSlotState; split
  · rename_i x h; exact tables_setSlot s i x _ h rfl
  · rfl

@[simp] theorem tables_markReady (i : Fin 40) : (s.markReady i).tables = s.tables := by
  unfold State.markReady; split
  · rename_i x h; exact tables_setSlot s i x _ h rfl
  · rfl

@[simp] theorem tables_keepRecord (i : Fin 40) (r : Record) : (s.keepRecord i r).tables = s.tables := by
  unfold State.keepRecord; split
  · rename_i x h; exact tables_setSlot s i x _ h rfl
  · rfl

@[simp] theorem tables_writeResult (k : Nat) (d : DoneRecord) : (s.writeResult k d).tables = s.tables := by
  simp [State.writeResult]

@[simp] theorem tables_finish (i : Fin 40) (d : DoneRecord) (o : Nat) (b : List Byte) :
    (s.finish i d o b).tables = s.tables := by
  unfold State.finish; split <;> simp

@[simp] theorem tables_refuse (i : Fin 40) (r : Result) : (s.refuse i r).tables = s.tables := tables_finish ..

@[simp] theorem tables_reorderMarks (direct before : State) : (s.reorderMarks direct before).tables = s.tables := by
  obtain ⟨c, k, e, h⟩ := reorderMarks_eq s direct before
  rw [e]
  simp only [State.tables]
  congr 1
  ext1 j hj
  have := congrArg (Option.map Slot.index) (h ⟨j, hj⟩)
  simpa [Function.comp_def] using this

/-! ### Contexts and cadences -/

@[simp] theorem tables_cadenceIdle (n : Fin 8) : (s.cadenceIdle n).tables = s.tables := by simp [State.cadenceIdle]

@[simp] theorem tables_reportRun (n : Fin 8) : (s.reportRun n).tables = s.tables := by
  unfold State.reportRun; dsimp only; split <;> simp

@[simp] theorem tables_flagCancel (i : CtxId) (c : CancelCause) : (s.flagCancel i c).tables = s.tables := rfl

@[simp] theorem tables_boundary (n : Fin 8) : (s.boundary n).tables = s.tables := by
  unfold State.boundary; dsimp only; split
  · split <;> simp
  · simp

@[simp] theorem tables_pushEntry (n : Fin 8) (b : List Byte) : (s.pushEntry n b).tables = s.tables := by
  unfold State.pushEntry; dsimp only; split <;> simp

@[simp] theorem tables_writeEntry (i : CtxId) (k : EntryKind) (st : BitVec 6) (e : Nat) (a r f : Bool) (d : Word) :
    (s.writeEntry i k st e a r f d).tables = s.tables := by
  unfold State.writeEntry; dsimp only; split
  · simp
  · split <;> simp
  · rfl

@[simp] theorem tables_toIdle (i : CtxId) : (s.toIdle i).tables = s.tables := rfl

@[simp] theorem tables_completeRun (i : CtxId) (r : Result) : (s.completeRun i r).tables = s.tables := by
  simp [State.completeRun]

@[simp] theorem tables_completeExchange (i : CtxId) (r : Result) : (s.completeExchange i r).tables = s.tables := by
  simp [State.completeExchange]

@[simp] theorem tables_completeSurvey (i : CtxId) (r : Result) : (s.completeSurvey i r).tables = s.tables := by
  simp [State.completeSurvey]

@[simp] theorem tables_endCadenceRun (i : CtxId) : (s.endCadenceRun i).tables = s.tables := by
  unfold State.endCadenceRun; split <;> simp

@[simp] theorem tables_endCancelled (i : CtxId) : (s.endCancelled i).tables = s.tables := by
  unfold State.endCancelled; split <;> simp

@[simp] theorem tables_countFailedRun (i : CtxId) : (s.countFailedRun i).tables = s.tables := by
  unfold State.countFailedRun; split <;> simp

@[simp] theorem tables_halt (i : CtxId) (e : StepError) : (s.halt i e).tables = s.tables := by
  unfold State.halt; dsimp only; split <;> simp

@[simp] theorem tables_beginElement (i : CtxId) : (s.beginElement i).tables = s.tables := by
  unfold State.beginElement; dsimp only; split
  · simp
  · split <;> simp

@[simp] theorem tables_endRun (i : CtxId) : (s.endRun i).tables = s.tables := by
  unfold State.endRun; split <;> simp

@[simp] theorem tables_beginStep (n : Nat) (i : CtxId) : (beginStep n i s).tables = s.tables := by
  induction n generalizing s with
  | zero => rfl
  | succ n ih =>
    unfold beginStep; dsimp only; split
    · simp
    · split <;> simp [ih]

@[simp] theorem tables_beginStepAt (i : CtxId) : (s.beginStepAt i).tables = s.tables := tables_beginStep ..

@[simp] theorem tables_nextStep (i : CtxId) : (s.nextStep i).tables = s.tables := by simp [State.nextStep]

@[simp] theorem tables_endElement (i : CtxId) : (s.endElement i).tables = s.tables := by
  unfold State.endElement; dsimp only; split
  · simp
  · split <;> simp

@[simp] theorem tables_stepError (i : CtxId) (e : StepError) (a r : Bool) : (s.stepError i e a r).tables = s.tables := by
  unfold State.stepError; dsimp only; split
  · split <;> simp
  · simp

@[simp] theorem tables_completeElement (i : CtxId) (r : Bool) (d : Word) :
    (s.completeElement i r d).tables = s.tables := by
  unfold State.completeElement; dsimp only; split
  · simp
  · split <;> simp

@[simp] theorem tables_endShort (i : CtxId) : (s.endShort i).tables = s.tables := by
  unfold State.endShort; dsimp only; split <;> simp

@[simp] theorem tables_awaitReady (i : CtxId) : (s.awaitReady i).tables = s.tables := by
  unfold State.awaitReady; dsimp only; split
  · simp
  · split
    · simp
    · split <;> simp

@[simp] theorem tables_surveyWalk (n : Nat) (i : CtxId) (a : Nat) : (surveyWalk n i a s).tables = s.tables := by
  induction n generalizing a s with
  | zero => simp [surveyWalk]
  | succ n ih =>
    unfold surveyWalk; dsimp only; split
    · simp
    · split <;> simp [ih]

@[simp] theorem tables_surveyStart (i : CtxId) : (s.surveyStart i).tables = s.tables := tables_surveyWalk ..

@[simp] theorem tables_surveyNext (i : CtxId) : (s.surveyNext i).tables = s.tables := by
  unfold State.surveyNext; split <;> simp

@[simp] theorem tables_surveyCount (i : CtxId) (f : SurveyCounts → SurveyCounts) :
    (s.surveyCount i f).tables = s.tables := rfl

@[simp] theorem tables_probeOutcome (i : CtxId) (o : FrameOutcome) : (s.probeOutcome i o).tables = s.tables := by
  unfold State.probeOutcome; dsimp only; split
  · simp
  · simp
  · split
    · simp
    · split <;> simp
  · split <;> simp

@[simp] theorem tables_elementOutcome (i : CtxId) (o : FrameOutcome) : (s.elementOutcome i o).tables = s.tables := by
  unfold State.elementOutcome; dsimp only; split
  · split
    · simp
    · split
      · simp
      · split <;> simp
  · simp
  · split
    · simp
    · split <;> simp
  · split <;> simp

@[simp] theorem tables_deliver (i : CtxId) (o : FrameOutcome) : (s.deliver i o).tables = s.tables := by
  unfold State.deliver; split <;> simp

@[simp] theorem tables_lapse (i : CtxId) : (s.lapse i).tables = s.tables := by
  unfold State.lapse; split <;> simp

@[simp] theorem tables_cancelCtx (i : CtxId) (c : CancelCause) : (s.cancelCtx i c).tables = s.tables := by
  unfold State.cancelCtx; dsimp only; split
  · rfl
  · split <;> simp

@[simp] theorem tables_cadenceStop (n : Fin 8) (r : StopReason) : (s.cadenceStop n r).tables = s.tables := by
  unfold State.cadenceStop; dsimp only; split <;> simp

@[simp] theorem tables_runPrepass (i : CtxId) : (s.runPrepass i).tables = s.tables := by
  unfold State.runPrepass; dsimp only; split
  · simp
  · simp
  · split <;> simp

@[simp] theorem tables_startRequest (i : CtxId) (k : Fin 40) : (s.startRequest i k).tables = s.tables := by
  unfold State.startRequest; dsimp only; split
  · split <;> simp
  · split
    · split <;> simp
    · split
      · split <;> simp
      · simp

@[simp] theorem tables_startCadenceRun (n : Fin 8) : (s.startCadenceRun n).tables = s.tables := by
  simp [State.startCadenceRun]

@[simp] theorem tables_miss (n : Fin 8) (o : Bool) : (s.miss n o).tables = s.tables := by
  unfold State.miss; dsimp only; split <;> simp

@[simp] theorem tables_trigger (n : Fin 8) : (s.trigger n).tables = s.tables := by
  unfold State.trigger; dsimp only; split
  · split <;> simp
  · simp
  · rfl

@[simp] theorem tables_triggerExpires (n : Fin 8) : (s.triggerExpires n).tables = s.tables := by
  simp [State.triggerExpires]

@[simp] theorem tables_loopDownStops : s.loopDownStops.tables = s.tables :=
  tables_foldl _ _ (fun s n => tables_cadenceStop s n .loopDown) _

/-! ### Loop Port -/

@[simp] theorem tables_noteGrant (i : CtxId) : (s.noteGrant i).tables = s.tables := by
  unfold State.noteGrant; split <;> simp

@[simp] theorem tables_transmit (f : LoopFrame) : (s.transmit f).tables = s.tables := rfl

@[simp] theorem tables_enterWindow (o : Owner) (f : LoopFrame) : (s.enterWindow o f).tables = s.tables := rfl

@[simp] theorem tables_sendCommand (i : CtxId) : (s.sendCommand i).tables = s.tables := by simp [State.sendCommand]

theorem tables_grant {t : State} (h : s.grant = some t) : t.tables = s.tables := by
  unfold State.grant at h
  split at h
  · split at h
    · dsimp only at h
      split at h <;> cases h <;> simp
    · cases h
  · cases h

@[simp] theorem tables_sendOwn : s.sendOwn.tables = s.tables := by
  unfold State.sendOwn; dsimp only; split <;> simp

@[simp] theorem tables_transmitEnd : s.transmitEnd.tables = s.tables := by
  unfold State.transmitEnd; split <;> simp

@[simp] theorem tables_syncAttempt : s.syncAttempt.tables = s.tables := rfl

@[simp] theorem tables_enterSyncing : s.enterSyncing.tables = s.tables := rfl

@[simp] theorem tables_completeOp (r : Result) : (s.completeOp r).tables = s.tables := by
  unfold State.completeOp; dsimp only; split <;> simp

@[simp] theorem tables_enterOpen : s.enterOpen.tables = s.tables := by simp [State.enterOpen]

@[simp] theorem tables_tellDown (o : Option CtxId) : (s.tellDown o).tables = s.tables := by
  cases o <;> simp [State.tellDown]

@[simp] theorem tables_enterDown : s.enterDown.tables = s.tables := tables_foldl _ _ tables_tellDown _

@[simp] theorem tables_syncFailed : s.syncFailed.tables = s.tables := by
  unfold State.syncFailed; split <;> simp

@[simp] theorem tables_enterSettling : s.enterSettling.tables = s.tables := rfl

@[simp] theorem tables_switchWalk (n a : Nat) (r : Reconfigure) : (switchWalk n a r s).tables = s.tables := by
  induction n generalizing a r with
  | zero => simp [switchWalk]
  | succ n ih =>
    unfold switchWalk; split
    · exact ih _ _
    · split
      · simp
      · exact ih _ _

@[simp] theorem tables_switchNext (r : Reconfigure) (a : Nat) : (s.switchNext r a).tables = s.tables :=
  tables_switchWalk ..

@[simp] theorem tables_enterSwitching : s.enterSwitching.tables = s.tables := by
  unfold State.enterSwitching; dsimp only; split <;> simp

@[simp] theorem tables_switchTimeout : s.switchTimeout.tables = s.tables := by
  unfold State.switchTimeout; split <;> simp

@[simp] theorem tables_switchDecided (r : Reconfigure) (o : Outcome40) (st : Option StationState) :
    (s.switchDecided r o st).tables = s.tables := by
  cases st <;> simp [State.switchDecided]

@[simp] theorem tables_switchOutcome (o : FrameOutcome) : (s.switchOutcome o).tables = s.tables := by
  unfold State.switchOutcome; split
  · dsimp only; split
    · split
      · simp
      · split <;> simp
    · simp
    · split <;> simp
    · rfl
  · rfl

@[simp] theorem tables_hand (w : Owner) (o : FrameOutcome) : (s.hand w o).tables = s.tables := by
  cases w <;> simp [State.hand]

@[simp] theorem tables_enterQuiet : s.enterQuiet.tables = s.tables :=
  tables_foldl _ _ (fun s (r : InFlight) => tables_hand s r.owner .abandoned) _

@[simp] theorem tables_lostOrder : s.lostOrder.tables = s.tables := by
  unfold State.lostOrder; split <;> simp

@[simp] theorem tables_sequenceFault : s.sequenceFault.tables = s.tables := by
  unfold State.sequenceFault; split <;> simp

@[simp] theorem tables_popOldest : s.popOldest.tables = s.tables := rfl

@[simp] theorem tables_framed : s.framed.tables = s.tables := rfl

@[simp] theorem tables_countCheck : s.countCheck.tables = s.tables := rfl

@[simp] theorem tables_replyArrives (q : BitVec 3) (st : BitVec 6) (a r : Bool) (d : Word) :
    (s.replyArrives q st a r d).tables = s.tables := by
  unfold State.replyArrives; split
  · split <;> simp
  · simp

@[simp] theorem tables_frameReturns (f : LoopFrame) : (s.frameReturns f).tables = s.tables := by
  unfold State.frameReturns; split
  · split <;> simp
  · simp

@[simp] theorem tables_badCheck : s.badCheck.tables = s.tables := by
  unfold State.badCheck; split
  · split <;> simp
  · split <;> simp

@[simp] theorem tables_syncArrives (p : Word) : (s.syncArrives p).tables = s.tables := by
  unfold State.syncArrives; split
  · split <;> simp
  · simp

@[simp] theorem tables_lineLost : s.lineLost.tables = s.tables := by
  unfold State.lineLost; split <;> simp

@[simp] theorem tables_deadlineExpires : s.deadlineExpires.tables = s.tables := by
  unfold State.deadlineExpires; split <;> simp

@[simp] theorem tables_quietEnds : s.quietEnds.tables = s.tables := by
  unfold State.quietEnds; dsimp only; split <;> simp

@[simp] theorem tables_acceptRestart (i : Fin 40) : (s.acceptRestart i).tables = s.tables := by
  simp [State.acceptRestart]

@[simp] theorem tables_acceptReconfigure (i : Fin 40) (b r : BitVec 64) :
    (s.acceptReconfigure i b r).tables = s.tables := by
  simp [State.acceptReconfigure]

/-! ### The end of an event -/

@[simp] theorem tables_releaseCtx (i : CtxId) : (s.releaseCtx i).tables = s.tables := by
  unfold State.releaseCtx; split <;> simp

@[simp] theorem tables_startHead (i : CtxId) : (s.startHead i).tables = s.tables := by
  unfold State.startHead; split <;> simp

theorem tables_startPending {t : State} (h : s.startPending = some t) : t.tables = s.tables := by
  unfold State.startPending at h
  split at h
  · cases h
  · split at h
    · split at h
      · cases h; simp
      · split at h <;> cases h; simp
    · split at h
      · split at h <;> cases h; simp
      · cases h

theorem tables_turn {t : State} (h : s.turn = some t) : t.tables = s.tables := by
  unfold State.turn at h
  split at h
  · cases h; simp
  · split at h
    · rename_i k; cases h; exact tables_startPending s k
    · split at h
      · cases h; simp
      · split at h
        · cases h; simp
        · exact tables_grant s h

@[simp] theorem tables_progress (n : Nat) : (progress n s).tables = s.tables := by
  induction n generalizing s with
  | zero => rfl
  | succ n ih =>
    unfold progress; split
    · rename_i t h; rw [ih, tables_turn s h]
    · rfl

/-- What Intake and the Queue Unit begin at the end of an event leaves the tables. -/
theorem Wakes.tables {s t : State} (h : Wakes s t) : t.tables = s.tables := by
  simp only [State.tables, h.store, h.attention, h.custody]

@[simp] theorem tables_settleIntake (before : State) : (s.settleIntake before).tables = s.tables :=
  (Wakes.settleIntake s before).tables

@[simp] theorem tables_settle (before : State) : (s.settle before).tables = s.tables := by
  unfold State.settle; split <;> simp

end

end Sys2Proof.Machine
end

section
namespace Sys2Proof.Machine

open Sys2Proof

/-- The tables of a part whose every slot is free, with the steps of a store: what a reset leaves. -/
def Tables.cleared (steps : List (Nat × Step)) : Tables :=
  { steps, load := none, attention := [], frames := Vector.replicate 40 none }

/-- What a command can do to the tables, each change with the rule that has it: a load begins, writes its next step, and
ends (R7, R8); an ATTENTION merges, SET ATTENTION and a notice only take entries away (R111, R113, R117); a frame taken
from a queue stands in a free slot and is in no other, and a posted one leaves (R143, R154); a reset clears (R163, R164). -/
inductive TableChange (c : Instr) (a : Tables) : Tables → Prop where
  | none : TableChange c a a
  | loadBegins (l : Load) (inside : l.dest + l.count ≤ 2048) (left : l.written < l.count) :
      TableChange c a { a with load := some l }
  | stepLoaded (acc : Nat) (image : StepImage) (l : Load) (st : Step) (next : Option Load)
      (command : c = .loadSourceArrival acc image) (loading : a.load.filter (·.acc == acc) = some l)
      (passes : Step.ofImage image = some st)
      (goesOn : ∀ m, next = some m → m = { l with written := l.written + 1 } ∧ l.written + 1 < l.count) :
      TableChange c a { a with steps := writeStep a.steps (l.dest + l.written) st, load := next }
  | loadEnds : TableChange c a { a with load := Option.none }
  | attentionMerged (new : Attention) (station : 1 ≤ new.station.toNat ∧ new.station.toNat ≤ 40) :
      TableChange c a { a with attention := mergeAttention a.attention new }
  | attentionsTaken (l : List Attention) (fewer : (l.map (·.station)).Sublist (a.attention.map (·.station))) :
      TableChange c a { a with attention := l }
  | frameTaken (i : Fin 40) (k : Nat) (l : List Attention) (free : a.frames[i] = Option.none)
      (new : some k ∉ a.frames.toList) (fewer : (l.map (·.station)).Sublist (a.attention.map (·.station))) :
      TableChange c a { a with frames := a.frames.set i (some k), attention := l }
  | framePosted (i : Fin 40) : TableChange c a { a with frames := a.frames.set i Option.none }
  | softReset : TableChange c a (.cleared a.steps)
  | hardReset (command : c = .powerOnReset ∨ c = .hostLinkReset) : TableChange c a (.cleared [])

/-- A change from a state with the same tables. -/
theorem TableChange.of_eq {c : Instr} {s : State} {a : Tables} (h : a = s.tables) : TableChange c s.tables a :=
  h ▸ .none

/-- A change that both branches of a test make. -/
theorem TableChange.ite {c : Instr} {a : Tables} {p : Prop} [Decidable p] {t u : State} (h : TableChange c a t.tables)
    (k : TableChange c a u.tables) : TableChange c a (if p then t else u).tables := by
  split
  · exact h
  · exact k

variable (c : Instr) (s : State)

/-! ### Loads -/

theorem tableChange_doLoad (i : Fin 40) (b : Body) : TableChange c s.tables (s.doLoad i b).tables := by
  unfold State.doLoad
  split
  · exact .of_eq (by simp)
  · rename_i fields
    split
    · exact .of_eq (by simp)
    · split
      · exact .of_eq (by simp)
      · simp only [loadFieldsOk, Bool.not_eq_true', Bool.not_eq_false, Bool.and_eq_true, decide_eq_true_eq] at fields
        obtain ⟨⟨⟨⟨-, positive⟩, -⟩, inside⟩, -⟩ := fields
        exact .loadBegins { slot := i, dest := loadDest b, count := loadCount b, written := 0, acc := s.link.nextAcc }
          inside positive

theorem tables_endLoad (l : Load) (r : Result) (step written : Nat) :
    (s.endLoad l r step written).tables = { s.tables with load := none } := by
  unfold State.endLoad; rw [tables_finish]; rfl

theorem tableChange_sourceStep (acc : Nat) (image : StepImage) :
    TableChange (.loadSourceArrival acc image) s.tables (s.sourceStep acc image).tables := by
  unfold State.sourceStep
  split
  · rename_i l loading
    unfold State.sourceArrives
    split
    · simp only [if_true, tables_settle, tables_endLoad]
      exact .loadEnds
    · rename_i st passes
      have written : ∀ next, (∀ m, next = some m → m = { l with written := l.written + 1 } ∧ l.written + 1 < l.count) →
          TableChange (.loadSourceArrival acc image) s.tables
            { s.tables with steps := writeStep s.tables.steps (l.dest + l.written) st, load := next } :=
        fun next => .stepLoaded acc image l st next rfl loading passes
      by_cases last : l.count ≤ l.written + 1
      · simp only [if_pos last, if_true, tables_settle, tables_endLoad]
        exact written none (by simp)
      · simp only [if_neg last]
        exact written (some _) (fun m e => ⟨(Option.some.inj e).symm, by omega⟩)
  · exact .none

theorem tableChange_sourceFails (acc : Nat) : TableChange c s.tables (s.sourceFails acc).tables := by
  unfold State.sourceFails
  split
  · simp only [tables_settle, tables_endLoad]; exact .loadEnds
  · exact .none

/-! ### The attention set -/

theorem tableChange_attentionArrives (st : BitVec 6) (code : Word) :
    TableChange c s.tables (s.attentionArrives st code).tables := by
  unfold State.attentionArrives
  split
  · unfold State.takeAttention; dsimp only
    split
    · rename_i range
      split <;> exact .attentionMerged _ range
    · exact .none
  · exact .none

theorem tableChange_setAttention (e d : BitVec 64) (k : Bool) :
    TableChange c s.tables (s.setAttention e d k).1.tables := by
  have same : (s.attention.map fun x => x.setHeld e d).map (·.station) = s.attention.map (·.station) := by
    simp [Attention.setHeld]
  unfold State.setAttention; dsimp only
  refine .attentionsTaken _ ?_
  rw [← show _ = s.tables.attention.map (·.station) from same]
  split
  · exact List.filter_sublist.map _
  · exact .refl _

theorem tableChange_doSetAttention (i : Fin 40) (b : Body) :
    TableChange c s.tables (s.doSetAttention i b).tables := by
  unfold State.doSetAttention; dsimp only
  split
  · exact .of_eq (by simp)
  · rw [tables_finish]; exact tableChange_setAttention ..

/-! ### Requests -/

theorem tables_routeOrQuiesce (i : Fin 40) : (s.routeOrQuiesce i).tables = s.tables := by
  unfold State.routeOrQuiesce
  split
  · simp
  · unfold State.routeContext
    split
    · simp
    · split <;> simp

theorem tables_doRun (i : Fin 40) (b : Body) : (s.doRun i b).tables = s.tables := by
  unfold State.doRun
  split
  · simp
  · split <;> simp [tables_routeOrQuiesce]

theorem tables_doExchange (i : Fin 40) (b : Body) : (s.doExchange i b).tables = s.tables := by
  unfold State.doExchange; split <;> simp [tables_routeOrQuiesce]

theorem tables_doSurvey (i : Fin 40) (b : Body) : (s.doSurvey i b).tables = s.tables := by
  unfold State.doSurvey
  split
  · simp
  · split
    · simp
    · split <;> simp [tables_routeOrQuiesce]

theorem tables_acceptStart (i : Fin 40) (n : Fin 8) (b : Body) (last lmax : Nat) :
    (s.acceptStart i n b last lmax).tables = s.tables := by
  unfold State.acceptStart; dsimp only; split <;> simp

theorem tables_doStart (i : Fin 40) (b : Body) : (s.doStart i b).tables = s.tables := by
  unfold State.doStart; dsimp only
  split
  · simp
  · split
    · simp
    · split
      · simp
      · split
        · simp
        · exact tables_acceptStart ..
        · rfl

theorem tables_doStop (i : Fin 40) (b : Body) : (s.doStop i b).tables = s.tables := by
  unfold State.doStop; dsimp only
  split
  · simp
  · split <;> simp

theorem tables_doRelease (i : Fin 40) (b : Body) : (s.doRelease i b).tables = s.tables := by
  unfold State.doRelease; dsimp only
  split
  · simp
  · split
    · simp
    · split <;> simp

theorem tables_decideOp (i : Fin 40) (r : Option Result) (accept : State → State)
    (h : (accept s).tables = s.tables) : (s.decideOp i r accept).tables = s.tables := by
  unfold State.decideOp
  split
  · simp
  · split
    · simp
    · exact h

theorem tables_doReconfigure (i : Fin 40) (b : Body) : (s.doReconfigure i b).tables = s.tables := by
  unfold State.doReconfigure
  split
  · simp
  · exact tables_decideOp _ _ _ _ (tables_acceptReconfigure ..)

theorem tables_doRestart (i : Fin 40) (b : Body) : (s.doRestart i b).tables = s.tables := by
  unfold State.doRestart
  split
  · simp
  · exact tables_decideOp _ _ _ _ (tables_acceptRestart ..)

theorem tables_answerLoop (i : Fin 40) (b : Body) : (s.answerLoop i b).tables = s.tables := by
  unfold State.answerLoop; dsimp only
  rw [tables_finish]; split <;> simp

theorem tables_doQuery (i : Fin 40) (b : Body) : (s.doQuery i b).tables = s.tables := by
  unfold State.doQuery
  split
  · simp
  · split
    · simp
    · split
      · simp
      · split
        · simp [State.answerStations]
        · split
          · exact tables_answerLoop ..
          · split <;> simp [State.answerCadences, State.answerHolds]

theorem tables_cancelTagged (tag : BitVec 64) (i : CtxId) : (s.cancelTagged tag i).tables = s.tables := by
  unfold State.cancelTagged; split <;> simp

theorem tables_doCancel (i : Fin 40) (b : Body) : (s.doCancel i b).tables = s.tables := by
  have pending : ∀ (t : State) (l : List (Fin 40)), (l.foldl (fun s k => s.refuse k .cancelled) t).tables = t.tables :=
    fun t l => tables_foldl t _ (fun s k => tables_refuse s k .cancelled) l
  unfold State.doCancel; dsimp only
  split
  · exact tables_refuse ..
  · split
    · rw [tables_refuse, tables_cancelTagged, tables_cancelTagged, pending, tables_setIntake _ _ rfl]
    · rw [tables_finish, tables_cancelTagged, tables_cancelTagged, pending, tables_setIntake _ _ rfl]

/-- What a request does to the tables, by its kind. -/
theorem tableChange_doKind (i : Fin 40) (r : Record) : TableChange c s.tables (s.doKind i r).tables := by
  unfold State.doKind
  exact .ite (tableChange_doLoad ..) <| .ite (.of_eq (tables_doRun ..)) <| .ite (.of_eq (tables_doExchange ..)) <|
    .ite (.of_eq (tables_doStart ..)) <| .ite (.of_eq (tables_doStop ..)) <| .ite (.of_eq (tables_doRelease ..)) <|
    .ite (.of_eq (tables_doSurvey ..)) <| .ite (.of_eq (tables_doReconfigure ..)) <|
    .ite (tableChange_doSetAttention ..) <| .ite (.of_eq (tables_doRestart ..)) <| .ite (.of_eq (tables_doQuery ..)) <|
    .ite (.of_eq (tables_doCancel ..)) (.of_eq (tables_refuse ..))

theorem tableChange_dispatch (acc : Nat) (r : Record) : TableChange c s.tables (s.dispatch acc r).tables := by
  unfold State.dispatch
  split
  · rename_i i _
    have h := tableChange_doKind c (s.keepRecord i r) i r
    rw [tables_keepRecord] at h
    dsimp only
    split <;> simpa using h
  · exact .none

/-! ### The queues -/

/-- The lowest free slot is free. -/
theorem lowestFree_slot {i : Fin 40} (h : s.lowestFree = some i) : s.slot i = none := by
  simpa [State.freeSlot] using List.find?_some h

/-- An arena index that is not in custody is in no slot. -/
theorem frames_not_mem {k : Nat} (h : ¬ s.inCustody k = true) : some k ∉ s.tables.frames.toList := by
  intro mem
  apply h
  simp only [State.tables, Vector.toList_map, List.mem_map] at mem
  obtain ⟨x, hx, e⟩ := mem
  obtain ⟨y, rfl, rfl⟩ := Option.map_eq_some_iff.1 e
  exact List.any_eq_true.2 ⟨_, hx, by simp⟩

theorem tables_setSlot_some (i : Fin 40) (x : Slot) :
    (s.setSlot i (some x)).tables = { s.tables with frames := s.tables.frames.set i (some x.index) } := by
  simp [State.tables, Vector.map_set]

/-- A frame taken from a queue into the lowest free slot. -/
theorem tableChange_place (i : Fin 40) (x : Slot) (l : List Attention) (free : s.lowestFree = some i)
    (new : ¬ s.inCustody x.index = true) (fewer : (l.map (·.station)).Sublist (s.attention.map (·.station))) :
    TableChange c s.tables ({ s with attention := l }.setSlot i (some x)).tables := by
  have slot := lowestFree_slot s free
  rw [tables_setSlot_some]
  exact .frameTaken i x.index l (by simpa [State.tables, State.slot] using slot) (frames_not_mem s new) fewer

theorem tableChange_takerFrame (k : Nat) : TableChange c s.tables (s.takerFrame k).tables := by
  unfold State.takerFrame State.place
  split
  · exact .of_eq (by simp [State.foundTwice])
  · rename_i new
    split
    · rename_i i free
      exact tableChange_place c s i _ s.attention free new (.refl _)
    · exact .of_eq (by simp)

theorem tables_writeNotice (k kind : Nat) (d : DoneRecord) (b : List Byte) :
    (s.writeNotice k kind d b).tables = s.tables := by
  simp [State.writeNotice]

/-- Filling a notice takes at most entries from the attention set, and leaves the other tables. -/
theorem tables_fillNotice (k : Nat) : ∃ l : List Attention, (l.map (·.station)).Sublist (s.attention.map (·.station)) ∧
    (s.fillNotice k).tables = { s.tables with attention := l } := by
  unfold State.fillNotice
  split
  · exact ⟨s.attention, .refl _, by rw [tables_setCad, tables_writeNotice]; rfl⟩
  · split
    · rename_i e _
      refine ⟨s.attention.filter fun x => x.station != e.station, List.filter_sublist.map _, ?_⟩
      have h := tables_writeNotice s k attentionNoticeKind
        { result := Result.done.code, station := e.station.toNat, countA := e.firstCode, countB := e.lastCode }
        (e.noticeBody (s.attention.filter fun x => x.station != e.station) s.engine.timeBase)
      exact congrArg (fun a : Tables => { a with attention := s.attention.filter fun x => x.station != e.station }) h
    · exact ⟨s.attention, .refl _, tables_writeNotice ..⟩

theorem tableChange_noticeFrame (k : Nat) : TableChange c s.tables (s.noticeFrame k).tables := by
  unfold State.noticeFrame
  split
  · exact .of_eq (by simp [State.foundTwice])
  · rename_i new
    obtain ⟨l, fewer, filled⟩ := tables_fillNotice s k
    dsimp only
    split
    · rename_i i free
      rw [tables_markReady, tables_setSlot_some, tables_setNotice, filled]
      have := tableChange_place c s i { index := k, spare := true, state := .taken, record := none, readyNumber := 0, readAcc := none } l free new fewer
      rwa [tables_setSlot_some] at this
    · rw [tables_setNotice, filled]
      exact .attentionsTaken l fewer

theorem tableChange_posted (e : Bool) : TableChange c s.tables (s.posted e).tables := by
  have freed : ∀ i, (s.setSlot i none).tables = { s.tables with frames := s.tables.frames.set i none } :=
    fun i => by simp [State.tables, Vector.map_set]
  have emptied : ∀ t : State, (if e then (t.setIntake fun x => { x with posting := none }).setCause .done
      else t.setIntake fun x => { x with posting := none }).tables = t.tables := by
    intro t; cases e <;> simp
  unfold State.posted; dsimp only
  rw [emptied]
  split
  · rw [freed]; exact .framePosted _
  · exact .none

theorem tables_takerLook : s.takerLook.tables = s.tables := by simp [State.takerLook]

theorem tables_takerEmpty : s.takerEmpty.tables = s.tables := by
  unfold State.takerEmpty; split <;> simp [tables_takerLook]

theorem tables_noticeEmpty : s.noticeEmpty.tables = s.tables := by
  unfold State.noticeEmpty; dsimp only
  rw [tables_setNotice]; split <;> simp

/-- What a requester does with its report. -/
theorem tableChange_report (q : Queue) (r : Report) : TableChange c s.tables (s.report q r).tables := by
  unfold State.report
  split
  · exact .of_eq (tables_takerEmpty s)
  · exact tableChange_takerFrame ..
  · exact .of_eq (tables_noticeEmpty s)
  · exact tableChange_noticeFrame ..
  · exact tableChange_posted ..
  · exact .none

theorem tableChange_reported (q : Queue) (x : State × Option Report) (h : x.1.tables = s.tables) :
    TableChange c s.tables (State.reported q x).tables := by
  unfold State.reported
  split
  · rw [← h]; exact tableChange_report ..
  · exact .of_eq h

@[simp] theorem tables_releaseLock (q : Queue) (f : Option PendingFault) : (s.releaseLock q f).tables = s.tables := rfl

theorem tables_headerArrives (q : Queue) (o : QueueOp) (head tail count : Word) :
    (s.headerArrives q o head tail count).1.tables = s.tables := by
  unfold State.headerArrives
  split
  · simp
  · by_cases removal : o.frame = 0
    · simp only [if_pos removal]; split <;> simp
    · simp only [if_neg removal]; split <;> simp [State.insertFirst]

theorem tables_unlink (q : Queue) (link count : Word) : (s.unlink q link count).tables = s.tables := by
  unfold State.unlink; dsimp only; rw [tables_post]; split <;> simp

theorem tables_linkArrives (q : Queue) (o : QueueOp) (head tail count link : Word) :
    (s.linkArrives q o head tail count link).1.tables = s.tables := by
  unfold State.linkArrives
  split
  · split <;> simp [tables_unlink]
  · split <;> simp [State.insertBehind]

theorem tableChange_headerOutcome (acc : Nat) (head tail count : Word) :
    TableChange c s.tables (s.headerOutcome acc head tail count).tables := by
  unfold State.headerOutcome
  split
  · split
    · exact tableChange_reported _ _ _ _ (tables_headerArrives ..)
    · exact .none
  · exact .none

theorem tableChange_linkOutcome (acc : Nat) (link : Word) :
    TableChange c s.tables (s.linkOutcome acc link).tables := by
  unfold State.linkOutcome
  split
  · split
    · exact tableChange_reported _ _ _ _ (tables_linkArrives ..)
    · exact .none
  · exact .none

theorem tables_claimOutcome (acc : Nat) (found : Option Word) : (s.claimOutcome acc found).tables = s.tables := by
  unfold State.claimOutcome
  split
  · rfl
  · split
    · rfl
    · simp
    · split
      · rfl
      · split <;> simp

theorem tables_backoffExpires (q : Queue) : (s.backoffExpires q).tables = s.tables := by
  unfold State.backoffExpires
  split
  · split
    · split <;> simp
    · rfl
  · rfl

theorem tables_contentionExpires (q : Queue) : (s.contentionExpires q).tables = s.tables := by
  unfold State.contentionExpires
  split
  · split <;> simp
  · rfl

theorem tables_stallExpires (q : Queue) : (s.stallExpires q).tables = s.tables := by
  unfold State.stallExpires
  split
  · split <;> simp
  · rfl

theorem tables_queueReadFails (acc : Nat) : (s.queueReadFails acc).tables = s.tables := by
  unfold State.queueReadFails
  split
  · simp
  · split
    · split <;> simp
    · rfl

theorem tables_releaseOutcome (acc : Nat) (found : Option Word) : (s.releaseOutcome acc found).tables = s.tables := by
  unfold State.releaseOutcome
  split
  · split
    · split
      · dsimp only
        split
        · rw [tables_raise]; rfl
        · rfl
      · simp
    · rfl
  · rfl

theorem tables_frameReadFails (acc : Nat) : (s.frameReadFails acc).tables = s.tables := by
  unfold State.frameReadFails
  split
  · split <;> simp
  · rfl

/-! ### Engine Control and the registers -/

theorem tables_softReset : s.softReset.tables = .cleared s.tables.steps := by
  simp [State.tables, State.softReset, Tables.cleared, Intake.afterReset]

theorem tables_hardReset : s.hardReset.tables = .cleared [] := by
  simp [State.tables, State.hardReset, State.softReset, Tables.cleared, Intake.afterReset]

theorem tables_enable : s.enable.tables = s.tables := by
  unfold State.enable
  split
  · dsimp only
    split
    · rw [tables_raise]; rfl
    · rfl
  · rfl

theorem tables_anchorOutcome (acc : Nat) (image : Option AnchorImage) : (s.anchorOutcome acc image).tables = s.tables := by
  unfold State.anchorOutcome
  split
  · split
    · simp
    · split
      · simp
      · rw [tables_settle, State.enterRunning, tables_takerLook, tables_enterSyncing]; rfl
  · rfl

theorem tables_quiesceOne (x : Quiescing) : (s.quiesceOne x).tables = s.tables := by
  unfold State.quiesceOne
  split
  · split <;> simp
  · simp
  · simp

theorem tables_takerQuiesce : s.takerQuiesce.tables = s.tables := by
  unfold State.takerQuiesce; split <;> simp

theorem tables_quiesce : s.quiesce.tables = s.tables := by
  unfold State.quiesce
  split
  · dsimp only
    rw [tables_settleIntake, tables_foldl _ _ tables_quiesceOne, tables_chose, tables_takerQuiesce]; rfl
  · rfl

theorem tables_takerPrompt : s.takerPrompt.tables = s.tables := by
  unfold State.takerPrompt
  split
  · split
    · rfl
    · exact tables_takerLook s
    · simp
  · rfl

theorem tables_noticePrompt : s.noticePrompt.tables = s.tables := by
  unfold State.noticePrompt
  split
  · split
    · simp
    · split
      · split
        · rw [noticeBegin_eq]; rfl
        · split <;> simp
      · rfl
  · rfl

theorem tables_writePrompt (v : Word) : (s.writePrompt v).tables = s.tables := by
  have first : (if v.getLsbD 0 then s.takerPrompt.settleIntake s else s).tables = s.tables := by
    split <;> simp [tables_takerPrompt]
  unfold State.writePrompt; dsimp only
  split
  · rw [tables_settleIntake, tables_noticePrompt, first]
  · exact first

theorem tables_writeCause (v : Word) : (s.writeCause v).tables = s.tables := by
  unfold State.writeCause State.sendMessage; dsimp only
  split
  · rfl
  · split <;> rfl

theorem tables_writeAnchor (high : Bool) (v : Word) : (s.writeAnchor high v).tables = s.tables := by
  unfold State.writeAnchor
  split
  · split <;> rfl
  · rfl

theorem tableChange_registerWrite (offset bytes : Nat) (v : Word) :
    TableChange c s.tables (s.registerWrite offset bytes v).tables := by
  have command : TableChange c s.tables (s.writeCommand v).tables :=
    .ite (.of_eq (tables_enable s)) <| .ite (.of_eq (tables_quiesce s)) <|
      .ite (tables_softReset s ▸ .softReset) .none
  exact .ite (.ite (.of_eq (tables_writeAnchor ..)) <| .ite (.of_eq (tables_writeAnchor ..)) <| .ite command <|
    .ite (.of_eq (tables_writePrompt ..)) <| .ite (.of_eq (tables_writeCause ..)) .none) .none

/-! ### Timers -/

theorem tables_inputArrives (acc : Nat) (w : Word) : (s.inputArrives acc w).tables = s.tables := by
  unfold State.inputArrives; split <;> simp

theorem tables_inputFails (acc : Nat) : (s.inputFails acc).tables = s.tables := by
  unfold State.inputFails; split <;> simp

theorem tables_pauseEnds (i : CtxId) : (s.pauseEnds i).tables = s.tables := by
  unfold State.pauseEnds; dsimp only; split <;> simp

theorem tables_gapEnds (i : CtxId) : (s.gapEnds i).tables = s.tables := by
  unfold State.gapEnds; dsimp only; split <;> simp

theorem tables_quietExpires : s.quietExpires.tables = s.tables := by
  unfold State.quietExpires; split <;> simp

theorem tables_syncExpires : s.syncExpires.tables = s.tables := by
  unfold State.syncExpires; split <;> simp

theorem tables_syncQuietExpires : s.syncQuietExpires.tables = s.tables := by
  unfold State.syncQuietExpires; split <;> simp

theorem tables_settleEnds : s.settleEnds.tables = s.tables := by
  unfold State.settleEnds; split <;> simp

theorem tables_cadenceExpires (n : Fin 8) : (s.cadenceExpires n).tables = s.tables := by
  unfold State.cadenceExpires; split <;> simp

theorem tables_tick : s.tick.tables = s.tables := by
  unfold State.tick State.sampleEnable
  have passed : s.passMicrosecond.tables = s.tables := by unfold State.passMicrosecond; split <;> rfl
  split
  · exact passed
  · exact passed

/-! ### Commands -/

/-- The end of an event and the part's being live add no change of their own. -/
theorem tableChange_event {f : State → State} (h : TableChange c s.tables (f s).tables) :
    TableChange c s.tables (s.event f).tables := .ite (by rwa [tables_settle]) .none

theorem tableChange_intakeEvent {f : State → State} (h : TableChange c s.tables (f s).tables) :
    TableChange c s.tables (s.intakeEvent f).tables := .ite (by rwa [tables_settleIntake]) .none

theorem tableChange_live {t : State} (h : TableChange c s.tables t.tables) :
    TableChange c s.tables (if s.live then t else s).tables := .ite h .none

/-- What a command does to the tables. -/
theorem exec_tableChange {t : State} (h : exec c s = .next t) : TableChange c s.tables t.tables := by
  cases c <;> cases h
  case powerOnReset => exact tables_hardReset s ▸ .hardReset (.inl rfl)
  case hostLinkReset => exact tables_hardReset s ▸ .hardReset (.inr rfl)
  case resetInputRelease | linkTrained => exact .none
  case enable | quiesce | softReset | promptRequest | promptSpare | causeWrite | anchorWrite | registerWrite =>
    exact tableChange_registerWrite ..
  case anchorReadOutcome => exact tableChange_live _ _ (.of_eq (tables_anchorOutcome ..))
  case badKind | loadProgram | run | exchange | startCadence | stopCadence | release | survey | reconfigure | setAttention |
      loopRestart | queryStations | queryLoop | queryCadences | queryHolds | cancel =>
    exact tableChange_live _ _ (tableChange_dispatch ..)
  case loadSourceArrival => exact tableChange_live _ _ (tableChange_sourceStep ..)
  case loadSourceReadFail => exact tableChange_live _ _ (tableChange_sourceFails ..)
  case lockClaimOutcome => exact tableChange_intakeEvent _ _ (.of_eq (tables_claimOutcome ..))
  case lockBackoffExpiry => exact tableChange_intakeEvent _ _ (.of_eq (tables_backoffExpires ..))
  case contentionPauseExpiry => exact tableChange_intakeEvent _ _ (.of_eq (tables_contentionExpires ..))
  case stallTimerExpiry => exact tableChange_intakeEvent _ _ (.of_eq (tables_stallExpires ..))
  case headerReadOutcome => exact tableChange_intakeEvent _ _ (tableChange_headerOutcome ..)
  case linkReadOutcome => exact tableChange_intakeEvent _ _ (tableChange_linkOutcome ..)
  case queueReadFail => exact tableChange_intakeEvent _ _ (.of_eq (tables_queueReadFails ..))
  case lockReleaseOutcome => exact tableChange_intakeEvent _ _ (.of_eq (tables_releaseOutcome ..))
  case frameReadFail => exact tableChange_intakeEvent _ _ (.of_eq (tables_frameReadFails ..))
  case inputWordArrival => exact tableChange_event _ _ (.of_eq (tables_inputArrives ..))
  case inputReadFail => exact tableChange_event _ _ (.of_eq (tables_inputFails ..))
  case pauseExpiry => exact tableChange_event _ _ (.of_eq (tables_pauseEnds ..))
  case awaitGapExpiry => exact tableChange_event _ _ (.of_eq (tables_gapEnds ..))
  case frameTransmitEnd => exact tableChange_event _ _ (.of_eq (tables_transmitEnd s))
  case replyArrival => exact tableChange_event _ _ (.of_eq (tables_replyArrives s.framed ..))
  case frameReturned => exact tableChange_event _ _ (.of_eq (tables_frameReturns s.framed ..))
  case badCheckFrame => exact tableChange_event _ _ (.of_eq (tables_badCheck s.framed))
  case attentionArrival => exact tableChange_intakeEvent _ _ (tableChange_attentionArrives _ s.framed ..)
  case syncArrival => exact tableChange_event _ _ (.of_eq (tables_syncArrives s.framed ..))
  case unexpectedTypeFrame => exact tableChange_event _ _ (.of_eq (tables_sequenceFault s.framed))
  case lineLoss => exact tableChange_event _ _ (.of_eq (tables_lineLost s))
  case replyTimeout => exact tableChange_event _ _ (.of_eq (tables_deadlineExpires s))
  case quietTimerExpiry => exact tableChange_event _ _ (.of_eq (tables_quietExpires s))
  case syncTimerExpiry => exact tableChange_event _ _ (.of_eq (tables_syncExpires s))
  case syncQuietExpiry => exact tableChange_event _ _ (.of_eq (tables_syncQuietExpires s))
  case cadenceLoopDownStop => exact tableChange_event _ _ (.of_eq (tables_loopDownStops s))
  case settleTimerExpiry => exact tableChange_event _ _ (.of_eq (tables_settleEnds s))
  case cadenceTrigger => exact tableChange_event _ _ (.of_eq (tables_cadenceExpires ..))

end Sys2Proof.Machine
end

section
namespace Sys2Proof.Machine

open Sys2Proof

/-! ### The form of the tables -/

/-- The arena indices that the slots hold, in slot order. -/
def Tables.indices (a : Tables) : List Nat := a.frames.toList.filterMap id

/-- A store with the steps and the load of the tables, and no hold. -/
def Tables.store (a : Tables) : Store := { steps := a.steps, holds := Vector.replicate 10 none, load := a.load }

theorem custodyOk_iff (s : State) : s.custodyOk = true ↔ s.tables.indices.Nodup := by
  have same : s.custodyIndices = s.tables.indices := by
    simp [State.custodyIndices, Tables.indices, State.tables, Vector.toList_map, List.filterMap_map]
  rw [State.custodyOk, decide_eq_true_iff, same]

theorem attentionOk_iff (l : List Attention) : attentionOk l = true ↔
    (l.map (·.station)).Nodup ∧ ∀ a ∈ l.map (·.station), 1 ≤ a.toNat ∧ a.toNat ≤ 40 := by
  simp [attentionOk]

theorem Store.loadOk_iff (s : Store) :
    s.loadOk = true ↔ ∀ l, s.load = some l → l.dest + l.count ≤ 2048 ∧ l.written < l.count := by
  unfold Store.loadOk; cases s.load <;> simp

/-- The slots around a place that is written: those before it, the new one and those behind it. -/
theorem toList_set_around (v : Vector (Option Nat) 40) (i : Fin 40) (x : Option Nat) :
    (v.set i x).toList = v.toList.take i ++ x :: v.toList.drop (i + 1) := by
  rw [Vector.toList_set, List.set_eq_take_append_cons_drop, if_pos (by simp)]

theorem toList_around (v : Vector (Option Nat) 40) (i : Fin 40) :
    v.toList = v.toList.take i ++ v[i] :: v.toList.drop (i + 1) := by
  rw [← toList_set_around]; simp

/-- A frame that stands in no slot, taken into a free one. -/
theorem indices_nodup_taken (a : Tables) (i : Fin 40) (k : Nat) (free : a.frames[i] = none)
    (new : some k ∉ a.frames.toList) (h : a.indices.Nodup) : ((a.frames.set i (some k)).toList.filterMap id).Nodup := by
  unfold Tables.indices at h
  rw [toList_around a.frames i, free] at h new
  rw [toList_set_around]
  simp only [List.filterMap_append, List.filterMap_cons, id] at h ⊢
  rw [List.nodup_middle, List.nodup_cons]
  refine ⟨?_, h⟩
  simp only [List.mem_append, List.mem_cons, List.mem_filterMap, exists_eq_right] at new ⊢
  tauto

/-- A slot becomes free. -/
theorem indices_nodup_posted (a : Tables) (i : Fin 40) (h : a.indices.Nodup) :
    ((a.frames.set i none).toList.filterMap id).Nodup := by
  refine h.sublist ?_
  unfold Tables.indices
  rw [toList_set_around]
  conv_rhs => rw [toList_around a.frames i]
  simp only [List.filterMap_append, List.filterMap_cons, id]
  refine (List.Sublist.refl _).append ?_
  split
  · exact .refl _
  · exact List.sublist_cons_self _ _

theorem mergeAttention_station (l : List Attention) (new : Attention) :
    (mergeAttention l new).map (·.station) =
      l.map (·.station) ++ if new.station ∈ l.map (·.station) then [] else [new.station] := by
  have merged : ∀ e : Attention, (if e.station = new.station then e.merge new.lastCode else e).station = e.station := by
    intro e; split <;> rfl
  unfold mergeAttention
  by_cases h : new.station ∈ l.map (·.station)
  · have any : l.any (fun e => e.station == new.station) = true := by simpa using h
    rw [if_pos any, if_pos h]
    simp [merged]
  · have any : ¬ l.any (fun e => e.station == new.station) = true := by simpa using h
    rw [if_neg any, if_neg h]
    simp

variable {c : Instr} {a b : Tables}

/-- No change puts an arena index into custody twice (R138, R143). -/
theorem TableChange.indices_nodup (h : TableChange c a b) (k : a.indices.Nodup) : b.indices.Nodup := by
  have cleared : ∀ steps, (Tables.cleared steps).indices.Nodup := fun steps => by
    simp [Tables.cleared, Tables.indices, Vector.toList_replicate]
  cases h with
  | none | loadBegins | stepLoaded | loadEnds | attentionMerged | attentionsTaken => exact k
  | frameTaken i n l free new => exact indices_nodup_taken a i n free new k
  | framePosted i => exact indices_nodup_posted a i k
  | softReset | hardReset => exact cleared _

/-- Every change keeps the attention set in its form (R109, R111). -/
theorem TableChange.attentionOk (h : TableChange c a b) (k : attentionOk a.attention = true) :
    attentionOk b.attention = true := by
  have fewer : ∀ l : List Attention, (l.map (·.station)).Sublist (a.attention.map (·.station)) → Machine.attentionOk l = true := by
    intro l sub
    rw [attentionOk_iff] at k ⊢
    exact ⟨k.1.sublist sub, fun x hx => k.2 x (sub.subset hx)⟩
  cases h with
  | none | loadBegins | stepLoaded | loadEnds | framePosted => exact k
  | attentionMerged new range =>
    rw [attentionOk_iff] at k ⊢
    simp only [mergeAttention_station]
    obtain ⟨nodup, stations⟩ := k
    split
    · rw [List.append_nil]; exact ⟨nodup, stations⟩
    · rename_i absent
      refine ⟨nodup.append (List.nodup_singleton _) (by simpa using absent), fun x hx => ?_⟩
      rcases List.mem_append.1 hx with hx | hx
      · exact stations x hx
      · rwa [List.mem_singleton.1 hx]
  | attentionsTaken l sub => exact fewer l sub
  | frameTaken i n l free new sub => exact fewer l sub
  | softReset | hardReset => exact fewer [] (List.nil_sublist _)

/-- Every change keeps the store's locations rising and below 2048, and the load in progress inside the store (R1, R7). -/
theorem TableChange.storeOk (h : TableChange c a b) (wf : a.store.wf = true) (load : a.store.loadOk = true) :
    b.store.wf = true ∧ b.store.loadOk = true := by
  cases h with
  | none | attentionMerged | attentionsTaken | frameTaken | framePosted => exact ⟨wf, load⟩
  | loadBegins l inside left =>
    exact ⟨wf, (Store.loadOk_iff _).2 fun m e => Option.some.inj e ▸ ⟨inside, left⟩⟩
  | stepLoaded acc image l st next _ loading _ goesOn =>
    have stands : a.load = some l := (Option.filter_eq_some_iff.1 loading).1
    obtain ⟨inside, left⟩ := (Store.loadOk_iff _).1 load l stands
    refine ⟨Store.wf_writeStep a.store _ st wf (by show _ < 2048; omega) _ _, (Store.loadOk_iff _).2 fun m e => ?_⟩
    obtain ⟨rfl, more⟩ := goesOn m e
    exact ⟨inside, more⟩
  | loadEnds | softReset => exact ⟨wf, rfl⟩
  | hardReset => exact ⟨rfl, rfl⟩

/-- A change of a store location is a load's next step, or a hard reset's (R1). -/
theorem TableChange.fetchStep_ne (h : TableChange c a b) {k : Nat} (ne : fetchStep b.steps k ≠ fetchStep a.steps k) :
    (∃ acc image l, c = .loadSourceArrival acc image ∧ a.load.filter (·.acc == acc) = some l ∧ k = l.dest + l.written ∧
      fetchStep b.steps k = Step.ofImage image) ∨
    ((c = .powerOnReset ∨ c = .hostLinkReset) ∧ fetchStep b.steps k = Option.none) := by
  cases h with
  | none | loadBegins | loadEnds | attentionMerged | attentionsTaken | frameTaken | framePosted | softReset =>
    exact absurd rfl ne
  | stepLoaded acc image l st next command loading passes =>
    have here : k = l.dest + l.written := by
      by_contra other
      exact ne (fetchStep_writeStep_other _ _ _ _ other)
    subst here
    exact .inl ⟨acc, image, l, command, loading, rfl, by rw [fetchStep_writeStep_same, passes]⟩
  | hardReset command => exact .inr ⟨command, rfl⟩

/-- Every step keeps what every change of a command keeps of the tables, an idle microsecond changing none of them. -/
theorem step_tables {s t : State} {P : Tables → Prop} (keeps : ∀ c a b, TableChange c a b → P a → P b)
    (h : step s = .next t) (k : P s.tables) : P t.tables := by
  unfold step at h
  split at h
  · cases h
    rwa [tables_tick]
  · exact keeps _ _ _ (exec_tableChange _ _ h) k

end Sys2Proof.Machine

open Sys2Proof Sys2Proof.Machine

/-- Settles O5: custody, the attention set and the store are functions of the tables, and each `TableChange` keeps each
form. -/
theorem stepKeepsTables : Obligations.StepKeepsTables := by
  intro s t h
  refine ⟨fun k => ?_, fun k => ?_, fun wf load => ?_⟩
  · rw [custodyOk_iff] at k ⊢
    exact step_tables (P := fun a => a.indices.Nodup) (fun _ _ _ => TableChange.indices_nodup) h k
  · exact step_tables (P := fun a => attentionOk a.attention = true) (fun _ _ _ => TableChange.attentionOk) h k
  · exact step_tables (P := fun a => a.store.wf = true ∧ a.store.loadOk = true)
      (fun _ _ _ change ok => change.storeOk ok.1 ok.2) h ⟨wf, load⟩

/-- Settles O8, from the one inversion of what a command can do to the tables. -/
theorem onlyLoadsAndHardResetsWriteStore : Obligations.OnlyLoadsAndHardResetsWriteStore :=
  fun _ _ _ _ h ne => (exec_tableChange _ _ h).fetchStep_ne ne
end

section
/-! Steps: the step test and the layout of a step are inverse to each other (R3, R4, section 11.5), field by field. -/

namespace Sys2Proof.Machine

open Sys2Proof

/-! ### The layout of a step -/

/-- The fields of a step's 16 bytes are read back at their offsets (section 11.5). -/
theorem packStep_fields (kind station op register width readiness onError source log : Byte) (count : BitVec 16)
    (value : Word) :
    let b := packStep kind station op register width readiness onError source log count value
    u8 b 0x00 = kind ∧ u8 b 0x01 = station ∧ u8 b 0x02 = op ∧ u8 b 0x03 = register ∧ u8 b 0x04 = width ∧
      u8 b 0x05 = readiness ∧ u8 b 0x06 = onError ∧ u8 b 0x07 = source ∧ u8 b 0x08 = log ∧ u8 b 0x09 = 0 ∧
      u16 b 0x0A = count ∧ u32 b 0x0C = value := by
  dsimp only [packStep, u8, u16, u32]
  refine ⟨?_, ?_, ?_, ?_, ?_, ?_, ?_, ?_, ?_, ?_, ?_, ?_⟩
  case refine_12 =>
    iterate 11 refine (BitVec.extractLsb'_append_eq_of_le (by decide)).trans ?_
    exact BitVec.extractLsb'_eq_self
  all_goals
    repeat refine (BitVec.extractLsb'_append_eq_of_le (by decide)).trans ?_
    exact BitVec.extractLsb'_append_eq_right

/-- The 16 bytes of a step are laid out from the fields read at their offsets (section 11.5). -/
theorem packStep_of_fields (b : StepImage) (h : u8 b 0x09 = 0) :
    packStep (u8 b 0x00) (u8 b 0x01) (u8 b 0x02) (u8 b 0x03) (u8 b 0x04) (u8 b 0x05) (u8 b 0x06) (u8 b 0x07) (u8 b 0x08)
      (u16 b 0x0A) (u32 b 0x0C) = b := by
  have joined : (u32 b 0x0C ++ u16 b 0x0A ++ u8 b 0x09 ++ u8 b 0x08 ++ u8 b 0x07 ++ u8 b 0x06 ++ u8 b 0x05 ++ u8 b 0x04 ++
      u8 b 0x03 ++ u8 b 0x02 ++ u8 b 0x01 ++ u8 b 0x00 : StepImage) = b := by
    simp only [u8, u16, u32]
    iterate 11 rw [BitVec.extractLsb'_append_extractLsb'_eq_extractLsb' (by rfl)]
    exact BitVec.extractLsb'_eq_self
  rw [h] at joined
  exact joined

/-- Bytes are the layout of given fields exactly when those fields are read at their offsets, with 0 at the free one. -/
theorem packStep_eq_iff (kind station op register width readiness onError source log : Byte) (count : BitVec 16)
    (value : Word) (b : StepImage) :
    packStep kind station op register width readiness onError source log count value = b ↔
      u8 b 0x09 = 0 ∧ u8 b 0x00 = kind ∧ u8 b 0x01 = station ∧ u8 b 0x02 = op ∧ u8 b 0x03 = register ∧ u8 b 0x04 = width ∧
      u8 b 0x05 = readiness ∧ u8 b 0x06 = onError ∧ u8 b 0x07 = source ∧ u8 b 0x08 = log ∧
      u16 b 0x0A = count ∧ u32 b 0x0C = value := by
  constructor
  · rintro rfl
    obtain ⟨h0, h1, h2, h3, h4, h5, h6, h7, h8, h9, hA, hC⟩ :=
      packStep_fields kind station op register width readiness onError source log count value
    exact ⟨h9, h0, h1, h2, h3, h4, h5, h6, h7, h8, hA, hC⟩
  · rintro ⟨h9, rfl, rfl, rfl, rfl, rfl, rfl, rfl, rfl, rfl, rfl, rfl⟩
    exact packStep_of_fields b h9

/-! ### Codes -/

theorem Width.ofCode_eq_some_iff (b : Byte) (w : Width) : Width.ofCode b = some w ↔ b = w.code.setWidth 8 := by
  revert b; cases w <;> decide

theorem Readiness.ofCode_eq_some_iff (b : Byte) (r : Readiness) : Readiness.ofCode b = some r ↔ b = r.code := by
  revert b; cases r <;> decide

theorem flagOf_eq_some_iff (b : Byte) (f : Bool) : flagOf b = some f ↔ b = BitVec.ofNat 8 (bit f) := by
  revert b; cases f <;> decide

/-- Whether an inline value of a data source stays within a width (R4). -/
def DataSource.within (w : Width) : DataSource → Bool
  | .inline v => w.fits v
  | .input => true

/-- Whether the inline value of an op class stays within a width (R4). -/
def Access.within (w : Width) : Access → Bool
  | .read => true
  | .write d _ => d.within w
  | .control d _ => d.within w

theorem Exchange.wf_iff (e : Exchange) :
    e.wf = true ↔ (1 ≤ e.station.toNat ∧ e.station.toNat ≤ 40) ∧ e.access.within e.width = true := by
  obtain ⟨station, access, register, width, readiness, goOn⟩ := e
  rcases access with _ | ⟨_ | _, _⟩ | ⟨_ | _, _⟩ <;> simp [Exchange.wf, Access.within, DataSource.within]

/-- The data source that a byte and a value name. -/
theorem DataSource.ofCode_eq_some_iff (w : Width) (b : Byte) (v : Word) (d : DataSource) :
    DataSource.ofCode w b v = some d ↔ b = d.codes.1 ∧ v = d.codes.2 ∧ d.within w = true := by
  unfold DataSource.ofCode
  by_cases one : b = 1#8
  · subst one
    cases d <;> simp [DataSource.codes, DataSource.within]
    exact ⟨fun ⟨fits, e⟩ => ⟨e, e ▸ fits⟩, fun ⟨e, fits⟩ => ⟨e ▸ fits, e⟩⟩
  by_cases two : b = 2#8
  · subst two
    cases d <;> simp [DataSource.codes, DataSource.within]
  · cases d <;> simp [DataSource.codes, one, two]

/-- The op class that the bytes and the value of a step name. -/
theorem Access.ofCode_eq_some_iff (w : Width) (op source log : Byte) (v : Word) (a : Access) :
    Access.ofCode w op source log v = some a ↔ op = a.code.setWidth 8 ∧ source = a.codes.1 ∧
      log = BitVec.ofNat 8 (bit a.codes.2.1) ∧ v = a.codes.2.2 ∧ a.within w = true := by
  have read : op = (Access.read.code.setWidth 8 : Byte) ↔ op = 1 := .rfl
  have write : ∀ d l, op = ((Access.write d l).code.setWidth 8 : Byte) ↔ op = 2 := fun _ _ => .rfl
  have control : ∀ d l, op = ((Access.control d l).code.setWidth 8 : Byte) ↔ op = 3 := fun _ _ => .rfl
  unfold Access.ofCode
  by_cases one : op = 1#8
  · cases a <;> simp only [read, write, control] <;> simp [one, Access.codes, Access.within, bit]
  by_cases two : op = 2#8
  · cases a <;> simp only [read, write, control] <;>
      simp [two, Access.codes, Access.within, Option.bind_eq_some_iff, DataSource.ofCode_eq_some_iff, flagOf_eq_some_iff]
    tauto
  by_cases three : op = 3#8
  · cases a <;> simp only [read, write, control] <;>
      simp [three, Access.codes, Access.within, Option.bind_eq_some_iff, DataSource.ofCode_eq_some_iff, flagOf_eq_some_iff]
    tauto
  · cases a <;> simp only [read, write, control] <;> simp [one, two, three]

/-- A byte of at most 63 and its six bits. -/
theorem byte_eq_setWidth_iff (x : Byte) (y : BitVec 6) : x = y.setWidth 8 ↔ x.toNat ≤ 63 ∧ x.setWidth 6 = y := by
  constructor
  · rintro rfl
    exact ⟨by simp; omega, by ext; simp⟩
  · rintro ⟨small, rfl⟩
    apply BitVec.eq_of_toNat_eq
    simp; omega

/-- The EXCHANGE or BLOCK fields that 16 bytes hold. -/
theorem Exchange.ofImage_eq_some_iff (b : StepImage) (e : Exchange) :
    Exchange.ofImage b = some e ↔ e.wf = true ∧ u8 b 0x01 = e.station.setWidth 8 ∧ u8 b 0x02 = e.access.code.setWidth 8 ∧
      u8 b 0x03 = e.register.setWidth 8 ∧ u8 b 0x04 = e.width.code.setWidth 8 ∧ u8 b 0x05 = e.readiness.code ∧
      u8 b 0x06 = BitVec.ofNat 8 (bit e.goOn) ∧ u8 b 0x07 = e.access.codes.1 ∧
      u8 b 0x08 = BitVec.ofNat 8 (bit e.access.codes.2.1) ∧ u32 b 0x0C = e.access.codes.2.2 := by
  obtain ⟨station, access, register, width, readiness, goOn⟩ := e
  rw [Exchange.wf_iff]
  simp only [Exchange.ofImage, Option.pure_def, Option.bind_eq_bind, byte_eq_setWidth_iff]
  have six : ∀ x : Byte, x.toNat ≤ 63 → (x.setWidth 6).toNat = x.toNat := fun x small => by simp; omega
  constructor
  · intro h
    split at h
    · cases h
    · rename_i range
      simp only [Option.bind_eq_some_iff, Width.ofCode_eq_some_iff, Readiness.ofCode_eq_some_iff, flagOf_eq_some_iff,
        Access.ofCode_eq_some_iff, Option.some.injEq, Exchange.mk.injEq] at h
      obtain ⟨_, h4, _, h5, _, h6, _, ⟨h2, h7, h8, hC, fits⟩, rfl, rfl, rfl, rfl, rfl, rfl⟩ := h
      exact ⟨⟨by rw [six _ (by omega)]; omega, fits⟩, ⟨by omega, rfl⟩, h2, ⟨by omega, rfl⟩, h4, h5, h6, h7, h8, hC⟩
  · rintro ⟨⟨range, fits⟩, ⟨s63, rfl⟩, h2, ⟨r63, rfl⟩, h4, h5, h6, h7, h8, hC⟩
    rw [six _ s63] at range
    rw [if_neg (by omega)]
    simp only [Option.bind_eq_some_iff, Width.ofCode_eq_some_iff, Readiness.ofCode_eq_some_iff, flagOf_eq_some_iff,
      Access.ofCode_eq_some_iff]
    exact ⟨_, h4, _, h5, _, h6, _, ⟨h2, h7, h8, hC, fits⟩, rfl⟩

/-- The layout of an EXCHANGE or BLOCK step, field by field. -/
theorem Exchange.toImage_eq_iff (b : StepImage) (e : Exchange) (kind : Byte) (count : BitVec 16) :
    (e.wf = true ∧ e.toImage kind count = b) ↔
      u8 b 0x09 = 0 ∧ u8 b 0x00 = kind ∧ u16 b 0x0A = count ∧ Exchange.ofImage b = some e := by
  rw [Exchange.ofImage_eq_some_iff, Exchange.toImage, packStep_eq_iff]
  constructor
  · rintro ⟨wf, h9, h0, h1, h2, h3, h4, h5, h6, h7, h8, hA, hC⟩
    exact ⟨h9, h0, hA, wf, h1, h2, h3, h4, h5, h6, h7, h8, hC⟩
  · rintro ⟨h9, h0, hA, wf, h1, h2, h3, h4, h5, h6, h7, h8, hC⟩
    exact ⟨wf, h9, h0, h1, h2, h3, h4, h5, h6, h7, h8, hA, hC⟩

/-- Bytes are all zero when each of them is. -/
theorem zeroAt_iff {w : Nat} (b : BitVec w) (offset n : Nat) :
    zeroAt b offset n = true ↔ ∀ k < n, u8 b (offset + k) = 0 := by
  have bits : ∀ start len : Nat, b.extractLsb' start len = 0 ↔ ∀ i < len, b.getLsbD (start + i) = false := by
    intro start len
    constructor
    · intro h i hi
      have := congrArg (fun x : BitVec len => x.getLsbD i) h
      simpa [hi] using this
    · intro h
      apply BitVec.eq_of_getLsbD_eq
      intro i hi
      simpa [hi] using h i hi
  simp only [zeroAt, u8, beq_iff_eq, bits]
  constructor
  · intro h k hk i hi
    have := h (8 * k + i) (by omega)
    rwa [show 8 * offset + (8 * k + i) = 8 * (offset + k) + i by omega] at this
  · intro h i hi
    have := h (i / 8) (by omega) (i % 8) (by omega)
    rwa [show 8 * (offset + i / 8) + i % 8 = 8 * offset + i by omega] at this

/-- A step without exchange fields is laid out with 0 in the eight bytes behind its kind. -/
theorem packStep_plain_iff (b : StepImage) (kind : Byte) (count : BitVec 16) (value : Word) :
    packStep kind 0 0 0 0 0 0 0 0 count value = b ↔
      u8 b 0x09 = 0 ∧ u8 b 0x00 = kind ∧ zeroAt b 0x01 8 = true ∧ u16 b 0x0A = count ∧ u32 b 0x0C = value := by
  rw [packStep_eq_iff, zeroAt_iff]
  constructor
  · rintro ⟨h9, h0, h1, h2, h3, h4, h5, h6, h7, h8, hA, hC⟩
    exact ⟨h9, h0, fun k hk => by interval_cases k <;> assumption, hA, hC⟩
  · rintro ⟨h9, h0, z, hA, hC⟩
    exact ⟨h9, h0, z 0 (by decide), z 1 (by decide), z 2 (by decide), z 3 (by decide), z 4 (by decide), z 5 (by decide),
      z 6 (by decide), z 7 (by decide), hA, hC⟩

/-- What the step test passes is within its ranges and laid out as it stands. -/
theorem Step.toImage_of_ofImage (b : StepImage) (st : Step) (h : Step.ofImage b = some st) :
    st.wf = true ∧ st.toImage = b := by
  unfold Step.ofImage at h; dsimp only at h
  by_cases free : u8 b 0x09 = 0
  · rw [if_neg (not_not_intro free)] at h
    split at h
    · rename_i kind
      split at h
      · rename_i count
        obtain ⟨e, image, rfl⟩ := Option.map_eq_some_iff.1 h
        exact (Exchange.toImage_eq_iff b e 1 0).2 ⟨free, kind, count, image⟩
      · cases h
    split at h
    · rename_i kind
      split at h
      · cases h
      · rename_i count
        obtain ⟨e, image, rfl⟩ := Option.map_eq_some_iff.1 h
        obtain ⟨wf, layout⟩ := (Exchange.toImage_eq_iff b e 2 (u16 b 0x0A)).2 ⟨free, kind, rfl, image⟩
        exact ⟨by simpa [Step.wf, wf] using count, layout⟩
    split at h
    · rename_i kind
      split at h
      · rename_i fields
        obtain ⟨plain, count, value⟩ := fields
        cases h
        exact ⟨by simpa [Step.wf] using count, (packStep_plain_iff b 3 _ 0).2 ⟨free, kind, plain, rfl, value⟩⟩
      · cases h
    split at h
    · rename_i kind
      split at h
      · rename_i fields
        cases h
        exact ⟨rfl, (packStep_plain_iff b 4 0 _).2 ⟨free, kind, fields.1, fields.2, rfl⟩⟩
      · cases h
    split at h
    · rename_i kind
      split at h
      · rename_i fields
        cases h
        exact ⟨rfl, (packStep_plain_iff b 5 0 0).2 ⟨free, kind, fields⟩⟩
      · cases h
    · cases h
  · rw [if_pos free] at h; cases h

/-- The layout of a step within its ranges passes the step test as that step. -/
theorem Step.ofImage_toImage (st : Step) (wf : st.wf = true) : Step.ofImage st.toImage = some st := by
  generalize layout : st.toImage = b
  unfold Step.ofImage
  cases st with
  | exchange e =>
    obtain ⟨free, kind, count, image⟩ := (Exchange.toImage_eq_iff b e 1 0).1 ⟨wf, layout⟩
    simp [free, kind, count, image]
  | block e n =>
    simp only [Step.wf, Bool.and_eq_true, bne_iff_ne] at wf
    obtain ⟨free, kind, count, image⟩ := (Exchange.toImage_eq_iff b e 2 n).1 ⟨wf.1, layout⟩
    have left : ¬ n = 0#16 := wf.2
    simp [free, kind, count, image, left]
  | pause n =>
    obtain ⟨free, kind, plain, count, value⟩ := (packStep_plain_iff b 3 n 0).1 layout
    have left : ¬ n = 0#16 := by simpa [Step.wf] using wf
    simp [free, kind, plain, count, value, left]
  | mark label =>
    obtain ⟨free, kind, plain, count, value⟩ := (packStep_plain_iff b 4 0 label).1 layout
    simp [free, kind, plain, count, value]
  | endStep =>
    obtain ⟨free, kind, plain, count, value⟩ := (packStep_plain_iff b 5 0 0).1 layout
    simp [free, kind, plain, count, value]

end Sys2Proof.Machine

section
open Sys2Proof.Machine

/-- Settles O10: the step test is the inverse of the layout, on the steps within their ranges. -/
theorem stepImagesRoundTrip : Obligations.StepImagesRoundTrip :=
  ⟨Step.ofImage_toImage, Step.toImage_of_ofImage⟩

end
end

section
/-! The state after reset. -/

namespace Sys2Proof.Machine

open Sys2Proof

/-- Every register of the window reads 0 after reset. -/
theorem readRegister_reset (offset : Nat) : State.reset.readRegister offset = 0 := by
  have status : State.reset.engineStatus = 0 := by decide
  unfold State.readRegister
  rw [status]
  split
  · rfl
  split
  · rfl
  split
  · rfl
  split <;> rfl

/-- A read of the window after reset brings zero bytes, whatever its place and width. -/
theorem readWindow_reset (offset bytes : Nat) : State.reset.readWindow offset bytes = some (List.replicate bytes 0) := by
  have answers : State.reset.windowAnswers = true := rfl
  have zero : ∀ k, u8 (0 : Word) k = 0 := fun k => by simp [u8]
  unfold State.readWindow
  rw [if_pos answers]
  simp only [readRegister_reset, zero, List.map_const', List.length_range]

end Sys2Proof.Machine

section
open Sys2Proof.Machine

/-- Settles O3: each invariant is a test that the reset state meets, and the window reads 0. -/
theorem resetMeetsInvariants : Obligations.ResetMeetsInvariants :=
  ⟨by decide, by decide, by decide, by decide, by decide, by decide, by decide, rfl, readWindow_reset⟩

end
end

section
/-! Requests: the read of a TAKEN frame arrives, its record is kept, and its kind decides what follows (R144, R145). -/

namespace Sys2Proof.Machine

open Sys2Proof

/-! ### Dispatching -/

/-- A command that brings a frame's kind, tag and body under an access number (R144). -/
def IsRequest (c : Instr) (acc : Nat) (r : Record) : Prop :=
  ∀ s : State, exec c s = .next (if s.live then s.dispatch acc r else s)

/-- Finishing a frame does not depend on what its slot held before. -/
@[simp] theorem State.finished_setSlot (s : State) (i : Fin 40) (y : Option Slot) (x : Slot) (d : DoneRecord) (o : Nat)
    (b : List Byte) : (s.setSlot i y).finished i x d o b = s.finished i x d o b := by
  simp [State.finished, State.setSlot, State.resultWrites, State.frameAddr]

@[simp] theorem State.setSlot_calm (s : State) (i : Fin 40) (y : Option Slot) : (s.setSlot i y).calm = s.calm := rfl

variable {s : State} {c : Instr} {acc : Nat} {i : Fin 40} {x : Slot} {kind : Byte} {tag : BitVec 64} {b : Body}

/-- What a request's kind makes of the state with its record kept, followed by the end of the event: for the kinds that
reach them, the contexts and the Loop Port go on as well. -/
theorem dispatch_eq {u : State} (request : IsRequest c acc { kind, tag, body := b }) (live : s.live = true)
    (taken : s.takenBy acc = some i) (slot : s.slot i = some x)
    (effect : (s.setSlot i (some (x.kept kind tag b))).doKind i { kind, tag, body := b } = u) :
    exec c s = .next (if reachesLoop kind then u.settle s else u.settleIntake s) := by
  rw [request, if_pos live]
  unfold State.dispatch
  rw [taken]
  simp only [keepRecord_eq s i x kind tag b slot, effect]

/-- A request that leaves a calm state gives the contexts and the Loop Port nothing to do. -/
theorem dispatch_wakes {u : State} (request : IsRequest c acc { kind, tag, body := b }) (live : s.live = true)
    (taken : s.takenBy acc = some i) (slot : s.slot i = some x)
    (effect : (s.setSlot i (some (x.kept kind tag b))).doKind i { kind, tag, body := b } = u)
    (calm : reachesLoop kind = true → u.calm = true) : ∃ t, exec c s = .next t ∧ Wakes u t := by
  refine ⟨_, dispatch_eq request live taken slot effect, ?_⟩
  split
  · rename_i reaches; exact .settle _ _ (calm reaches)
  · exact .settleIntake _ _

/-- A request that its kind finishes at once: the record in its frame, and nothing else changed. -/
theorem dispatch_finishes {d : DoneRecord} (request : IsRequest c acc { kind, tag, body := b }) (live : s.live = true)
    (taken : s.takenBy acc = some i) (slot : s.slot i = some x) (calm : reachesLoop kind = true → s.calm = true)
    (effect : (s.setSlot i (some (x.kept kind tag b))).doKind i { kind, tag, body := b } =
      (s.setSlot i (some (x.kept kind tag b))).finish i d) :
    ∃ t, exec c s = .next t ∧ Wakes (s.finished i (x.kept kind tag b) d) t := by
  refine dispatch_wakes request live taken slot (effect.trans ?_) calm
  rw [finish_eq _ _ _ _ _ _ (State.slot_setSlot_same ..), State.finished_setSlot]

/-- A kind outside 1-12 is no kind (R145). -/
theorem doKind_bad (u : State) (i : Fin 40) (r : Record) (outside : r.kind.toNat < 1 ∨ 12 < r.kind.toNat) :
    u.doKind i r = u.refuse i .badKind := by
  have other : ∀ k : Byte, 1 ≤ k.toNat ∧ k.toNat ≤ 12 → r.kind ≠ k := fun k inside e => by rw [e] at outside; omega
  unfold State.doKind
  rw [if_neg (other 1 (by decide)), if_neg (other 2 (by decide)), if_neg (other 3 (by decide)),
    if_neg (other 4 (by decide)), if_neg (other 5 (by decide)), if_neg (other 6 (by decide)),
    if_neg (other 7 (by decide)), if_neg (other 8 (by decide)), if_neg (other 9 (by decide)),
    if_neg (other 10 (by decide)), if_neg (other 11 (by decide)), if_neg (other 12 (by decide))]

/-! ### Field checks -/

theorem multipleOf_iff (a : Addr) (n : Nat) : multipleOf a n = true ↔ a.toNat % n = 0 := by simp [multipleOf]

theorem loadFieldsOk_iff (b : Body) : loadFieldsOk b = true ↔
    (u16 b 0x08).toNat ≤ 2047 ∧ 1 ≤ (u16 b 0x0A).toNat ∧ (u16 b 0x0A).toNat ≤ 2048 ∧
      (u16 b 0x08).toNat + (u16 b 0x0A).toNat ≤ 2048 ∧ zeroAt b 0x0C 84 = true := by
  simp only [loadFieldsOk, Bool.and_eq_true, decide_eq_true_eq, and_assoc]; rfl

theorem runFieldsOk_iff (b : Body) : runFieldsOk b = true ↔
    (u16 b 0x18).toNat ≤ 2047 ∧ (u64 b 0x00).toNat % 16 = 0 ∧ (u64 b 0x08).toNat % 4 = 0 ∧
      (u32 b 0x10 = 0 → u64 b 0x00 = 0) ∧ (u32 b 0x14 = 0 → u64 b 0x08 = 0) ∧ zeroAt b 0x1A 2 = true ∧
      zeroAt b 0x20 64 = true := by
  simp only [runFieldsOk, multipleOf_iff, Bool.and_eq_true, Bool.not_eq_true', Bool.and_eq_false_iff, beq_eq_false_iff_ne,
    bne_eq_false_iff_eq, decide_eq_true_eq, and_assoc, imp_iff_not_or, ne_eq]

theorem ringSizeOk_iff (w : Word) : ringSizeOk w = true ↔ ∃ k, k ≤ 16 ∧ w.toNat = 16 * 2 ^ k := by
  simp only [ringSizeOk, List.contains_iff_mem, List.mem_map, List.mem_range, Nat.lt_succ_iff]
  exact exists_congr fun k => and_congr_right fun _ => eq_comm

theorem startFieldsOk_iff (b : Body) : startFieldsOk b = true ↔
    (u8 b 0x1A).toNat ≤ 7 ∧ (u16 b 0x18).toNat ≤ 2047 ∧ 1 ≤ (u32 b 0x08).toNat ∧ (u32 b 0x08).toNat ≤ 2000000 ∧
      (u32 b 0x0C).toNat < (u32 b 0x08).toNat ∧ (∃ k, k ≤ 16 ∧ (u32 b 0x10).toNat = 16 * 2 ^ k) ∧
      (u64 b 0x00).toNat % 16 = 0 ∧ 1 ≤ (u32 b 0x14).toNat ∧ 2 * (u32 b 0x14).toNat ≤ (u32 b 0x10).toNat ∧
      zeroAt b 0x1C 68 = true := by
  simp only [startFieldsOk, multipleOf_iff, ringSizeOk_iff, Bool.and_eq_true, decide_eq_true_eq, and_assoc]

theorem stopFieldsOk_iff (b : Body) : stopFieldsOk b = true ↔ (u8 b 0x00).toNat ≤ 7 ∧ zeroAt b 0x01 95 = true := by
  simp only [stopFieldsOk, Bool.and_eq_true, decide_eq_true_eq]

theorem releaseFieldsOk_iff (b : Body) : releaseFieldsOk b = true ↔
    (u8 b 0x00).toNat ≤ 7 ∧ zeroAt b 0x01 3 = true ∧ zeroAt b 0x08 88 = true := by
  simp only [releaseFieldsOk, Bool.and_eq_true, decide_eq_true_eq, and_assoc]

theorem surveyFieldsOk_iff (b : Body) : surveyFieldsOk b = true ↔
    (u64 b 0x00).toNat % 8 = 0 ∧ zeroAt b 0x0C 84 = true := by
  simp only [surveyFieldsOk, multipleOf_iff, Bool.and_eq_true]

/-- A station set has no flag outside stations 1-40 (section 11.4). -/
theorem setOk_iff (v : BitVec 64) : setOk v = true ↔ ∀ a, a = 0 ∨ 40 < a → v.getLsbD a = false := by
  simp only [setOk, Bool.and_eq_true, beq_iff_eq]
  constructor
  · rintro ⟨zero, small⟩ a (rfl | above)
    · exact zero
    · exact Nat.testBit_lt_two_pow (lt_of_lt_of_le (by omega : v.toNat < 2 ^ 41) (Nat.pow_le_pow_right (by decide) above))
  · intro h
    refine ⟨h 0 (.inl rfl), Nat.div_eq_of_lt (Nat.lt_pow_two_of_testBit _ fun a above => ?_)⟩
    exact h a (.inr above)

/-- Two station sets are disjoint. -/
theorem and_eq_zero_iff (v w : BitVec 64) : v &&& w = 0 ↔ ∀ a, ¬ (v.getLsbD a = true ∧ w.getLsbD a = true) := by
  constructor
  · intro h a both
    have := congrArg (fun y : BitVec 64 => y.getLsbD a) h
    simp [both.1, both.2] at this
  · intro h
    apply BitVec.eq_of_getLsbD_eq
    intro a _
    simpa using h a

theorem or_ne_zero_iff (v w : BitVec 64) : v ||| w ≠ 0 ↔ v ≠ 0 ∨ w ≠ 0 := by
  rw [ne_eq, show v ||| w = 0 ↔ v = 0 ∧ w = 0 from BitVec.or_eq_zero_iff]; tauto

/-- The two station sets of a RECONFIGURE or a SET ATTENTION: disjoint, and within stations 1-40 (section 11.4). -/
theorem sets_iff (v w : BitVec 64) : ((v &&& w == 0) = true ∧ setOk v = true ∧ setOk w = true) ↔
    (∀ a, ¬ (v.getLsbD a = true ∧ w.getLsbD a = true)) ∧
      ∀ a, a = 0 ∨ 40 < a → v.getLsbD a = false ∧ w.getLsbD a = false := by
  rw [beq_iff_eq, and_eq_zero_iff, setOk_iff, setOk_iff]
  exact and_congr_right fun _ => by rw [← forall_and]; exact forall_congr' fun a => by tauto

theorem reconfigureFieldsOk_iff (b : Body) : reconfigureFieldsOk b = true ↔
    ((∀ a, ¬ ((u64 b 0x00).getLsbD a = true ∧ (u64 b 0x08).getLsbD a = true)) ∧
      ∀ a, a = 0 ∨ 40 < a → (u64 b 0x00).getLsbD a = false ∧ (u64 b 0x08).getLsbD a = false) ∧
      (u64 b 0x00 ≠ 0 ∨ u64 b 0x08 ≠ 0) ∧ zeroAt b 0x10 80 = true := by
  rw [← sets_iff, ← or_ne_zero_iff]
  simp only [reconfigureFieldsOk, Bool.and_eq_true, bne_iff_ne]
  tauto

theorem attentionFieldsOk_iff (b : Body) : attentionFieldsOk b = true ↔
    ((∀ a, ¬ ((u64 b 0x00).getLsbD a = true ∧ (u64 b 0x08).getLsbD a = true)) ∧
      ∀ a, a = 0 ∨ 40 < a → (u64 b 0x00).getLsbD a = false ∧ (u64 b 0x08).getLsbD a = false) ∧
      (u8 b 0x10).toNat ≤ 1 ∧ zeroAt b 0x11 79 = true := by
  rw [← sets_iff]
  simp only [attentionFieldsOk, Bool.and_eq_true, decide_eq_true_eq]
  tauto

theorem queryFieldsOk_iff (b : Body) : queryFieldsOk b = true ↔
    1 ≤ (u8 b 0x0C).toNat ∧ (u8 b 0x0C).toNat ≤ 4 ∧ (u8 b 0x0D).toNat ≤ 1 ∧ (u8 b 0x0D = 1 → u8 b 0x0C = 2) ∧
      (u8 b 0x0C = 1 ∨ u8 b 0x0C = 3 → (u64 b 0x00).toNat % 8 = 0) ∧
      (¬ (u8 b 0x0C = 1 ∨ u8 b 0x0C = 3) → u64 b 0x00 = 0 ∧ u32 b 0x08 = 0) ∧ zeroAt b 0x0E 82 = true := by
  have buffered : queryBuffered b = true ↔ u8 b 0x0C = 1 ∨ u8 b 0x0C = 3 := by
    simp only [queryBuffered, querySubject, Bool.or_eq_true, beq_iff_eq]
  have clears : (!(u8 b 0x0D == 1 && querySubject b != loopSubject)) = true ↔ (u8 b 0x0D = 1 → u8 b 0x0C = 2) := by
    simp only [querySubject, Bool.not_eq_true', Bool.and_eq_false_iff, beq_eq_false_iff_ne, bne_eq_false_iff_eq,
      imp_iff_not_or, ne_eq]
  have subject : decide (1 ≤ (querySubject b).toNat ∧ (querySubject b).toNat ≤ 4) = true ↔
      1 ≤ (u8 b 0x0C).toNat ∧ (u8 b 0x0C).toNat ≤ 4 := decide_eq_true_iff
  unfold queryFieldsOk
  rw [Bool.and_eq_true, Bool.and_eq_true, Bool.and_eq_true, Bool.and_eq_true, subject, decide_eq_true_iff, clears, ← buffered]
  by_cases h : queryBuffered b = true
  · simp only [h, if_true, multipleOf_iff, and_assoc, forall_const, not_true_eq_false, false_implies, true_and]
  · rw [if_neg h]
    simp only [h, Bool.and_eq_true, beq_iff_eq, and_assoc, forall_const, Bool.false_eq_true, not_false_eq_true,
      false_implies, true_and]

end Sys2Proof.Machine

section
open Sys2Proof Sys2Proof.Machine

/-- Settles O32: a kind outside 1-12 falls through the dispatcher's tests, and each kind's field check, put into the terms
of its rule, comes first in what the kind does. -/
theorem malformedRequestsAreRefused : Obligations.MalformedRequestsAreRefused := by
  intro s acc tag b i x live taken slot calm refused zero sets buffered
  have unmet : ∀ {check : Bool} {fields : Prop}, (check = true ↔ fields) → ¬ fields → check = false :=
    fun iff malformed => Bool.eq_false_iff.2 fun passes => malformed (iff.1 passes)
  have refuse : ∀ {c : Instr} {kind : Byte}, IsRequest c acc { kind, tag, body := b } →
      (∀ u : State, u.doKind i { kind, tag, body := b } = u.refuse i .badField) → refused c kind :=
    fun request effect => dispatch_finishes request live taken slot (fun _ => calm) (effect _)
  refine ⟨fun kind outside => ?_, fun malformed => ?_, fun malformed => ?_, fun malformed => ?_, fun malformed => ?_,
    fun malformed => ?_, fun malformed => ?_, fun malformed => ?_, fun malformed => ?_, fun malformed => ?_,
    fun c query malformed => ?_, fun malformed => ?_⟩
  · exact dispatch_finishes (fun _ => rfl) live taken slot (fun _ => calm) (doKind_bad _ _ _ outside)
  · have bad := unmet (loadFieldsOk_iff b) malformed
    exact refuse (fun _ => rfl) fun u => show u.doLoad i b = _ by simp [State.doLoad, bad]
  · have bad := unmet (runFieldsOk_iff b) malformed
    exact refuse (fun _ => rfl) fun u => show u.doRun i b = _ by simp [State.doRun, bad]
  · have bad := unmet (startFieldsOk_iff b) malformed
    exact refuse (fun _ => rfl) fun u => show u.doStart i b = _ by simp [State.doStart, bad]
  · have bad := unmet (stopFieldsOk_iff b) malformed
    exact refuse (fun _ => rfl) fun u => show u.doStop i b = _ by simp [State.doStop, bad]
  · have bad := unmet (releaseFieldsOk_iff b) malformed
    exact refuse (fun _ => rfl) fun u => show u.doRelease i b = _ by simp [State.doRelease, bad]
  · have bad := unmet (surveyFieldsOk_iff b) malformed
    exact refuse (fun _ => rfl) fun u => show u.doSurvey i b = _ by simp [State.doSurvey, bad]
  · have bad := unmet (reconfigureFieldsOk_iff b) malformed
    exact refuse (fun _ => rfl) fun u => show u.doReconfigure i b = _ by simp [State.doReconfigure, bad]
  · have bad := unmet (attentionFieldsOk_iff b) malformed
    exact refuse (fun _ => rfl) fun u => show u.doSetAttention i b = _ by simp [State.doSetAttention, bad]
  · have bad : restartFieldsOk b = false := Bool.eq_false_iff.2 malformed
    exact refuse (fun _ => rfl) fun u => show u.doRestart i b = _ by simp [State.doRestart, bad]
  · have bad := unmet (queryFieldsOk_iff b) malformed
    refine refuse (fun _ => ?_) fun u => show u.doQuery i b = _ by simp [State.doQuery, bad]
    simp only [List.mem_cons, List.not_mem_nil, or_false] at query
    rcases query with rfl | rfl | rfl | rfl <;> rfl
  · have bad : cancelFieldsOk b = false := Bool.eq_false_iff.2 malformed
    exact refuse (fun _ => rfl) fun u => show u.doCancel i b = _ by simp [State.doCancel, bad]

end
end

section
/-! LOAD PROGRAM: how it is decided (R6, R12) and how its source ends it (R7, R8). -/

namespace Sys2Proof.Machine

open Sys2Proof

/-! ### Holds in a load range -/

/-- The lowest held location of a load range (R6, R12). -/
theorem Store.meets_eq_some_iff (s : Store) (dest count k : Nat) : s.meets dest count = some k ↔
    dest ≤ k ∧ k < dest + count ∧ s.heldAt k = true ∧ ∀ j, dest ≤ j → j < k → s.heldAt j = false := by
  simp only [Store.meets, List.find?_map, Option.map_eq_some_iff, List.find?_range_eq_some, Function.comp_apply,
    List.mem_range, Bool.not_eq_true']
  constructor
  · rintro ⟨a, ⟨held, inside, lower⟩, rfl⟩
    refine ⟨by omega, by omega, held, fun j above below => ?_⟩
    have := lower (j - dest) (by omega)
    rwa [Nat.add_sub_cancel' above] at this
  · rintro ⟨above, inside, held, lower⟩
    refine ⟨k - dest, ⟨?_, by omega, fun j below => lower _ (by omega) (by omega)⟩, by omega⟩
    rwa [Nat.add_sub_cancel' above]

theorem Store.meets_eq_none_iff (s : Store) (dest count : Nat) : s.meets dest count = none ↔
    ∀ j, dest ≤ j → j < dest + count → s.heldAt j = false := by
  simp only [Store.meets, List.find?_eq_none, List.mem_map, List.mem_range, Bool.not_eq_true]
  constructor
  · exact fun h j above below => h j ⟨j - dest, by omega, by omega⟩
  · rintro h _ ⟨a, inside, rfl⟩
    exact h _ (by omega) (by omega)

/-! ### The dispatch of a LOAD PROGRAM, by its first failing check -/

variable {s : State} {i : Fin 40} {b : Body}

theorem doLoad_badField (fields : loadFieldsOk b = false) : s.doLoad i b = s.finish i { result := 2 } := by
  simp [State.doLoad, fields, State.refuse, Result.code]

theorem doLoad_badAddress (fields : loadFieldsOk b = true)
    (window : s.inWindow false (u64 b 0x00) (16 * (u16 b 0x0A).toNat) = false) :
    s.doLoad i b = s.finish i { result := 3 } := by
  have outside : s.inWindow false (u64 b 0x00) (16 * loadCount b) = false := window
  simp [State.doLoad, fields, outside, State.refuse, Result.code]

theorem doLoad_inUse {k : Nat} (fields : loadFieldsOk b = true)
    (window : s.inWindow false (u64 b 0x00) (16 * (u16 b 0x0A).toNat) = true)
    (meets : s.store.meets (u16 b 0x08).toNat (u16 b 0x0A).toNat = some k) :
    s.doLoad i b = s.finish i { result := 8, stepIndex := k } := by
  have inside : s.inWindow false (u64 b 0x00) (16 * loadCount b) = true := window
  have held : s.store.meets (loadDest b) (loadCount b) = some k := meets
  simp [State.doLoad, fields, inside, held, Result.code]

/-- An accepted LOAD PROGRAM: the load is in progress and its source is read (R7). -/
theorem doLoad_begins (fields : loadFieldsOk b = true)
    (window : s.inWindow false (u64 b 0x00) (16 * (u16 b 0x0A).toNat) = true)
    (meets : s.store.meets (u16 b 0x08).toNat (u16 b 0x0A).toNat = none) :
    s.doLoad i b = { s with
      store := { s.store with
        load := some { slot := i, dest := (u16 b 0x08).toNat, count := (u16 b 0x0A).toNat, written := 0,
                       acc := s.link.nextAcc } },
      link := { nextAcc := s.link.nextAcc + 1,
                issued := s.link.issued ++ [.read s.link.nextAcc (u64 b 0x00) (16 * (u16 b 0x0A).toNat)] } } := by
  have inside : s.inWindow false (u64 b 0x00) (16 * loadCount b) = true := window
  have free : s.store.meets (loadDest b) (loadCount b) = none := meets
  unfold State.doLoad
  rw [fields, inside, free]; rfl

/-! ### The end of a load -/

theorem loading_slot {acc : Nat} {l : Load} (h : s.loading acc = some l) : s.store.load = some l :=
  (Option.filter_eq_some_iff.1 h).1

/-- With no request context in CHECKING, a calm state stays calm whatever becomes of the store (R10). -/
theorem calm_of_not_checking {u : State} (calm : s.calm = true) (a : (s.ctx ctxA).state ≠ .checking)
    (b : (s.ctx ctxB).state ≠ .checking) (contexts : u.contexts = s.contexts) (loop : u.loop = s.loop)
    (pending : u.intake.pendingList = s.intake.pendingList) : u.calm = true := by
  have ctx : u.ctx = s.ctx := by funext j; simp [State.ctx, contexts]
  have released : u.released = [] := by simp [State.released, ctx, a, b]
  have waits : u.loopWaits = s.loopWaits := by
    simp only [State.loopWaits, State.canGrant, State.pick, State.pickCadence, State.pickRequest, ctx, loop]
  simp only [State.calm, Bool.and_eq_true] at calm ⊢
  rw [waits, released, ctx, pending]
  exact ⟨⟨calm.1.1, rfl⟩, calm.2⟩

theorem endLoad_eq {l : Load} {x : Slot} (slot : s.slot l.slot = some x) (r : Result) (step written : Nat) :
    s.endLoad l r step written = { s with store := { s.store with load := none } }.finished l.slot x
      { result := r.code, stepIndex := step, countA := BitVec.ofNat 32 written } :=
  finish_eq _ _ _ _ _ _ slot

/-- The end of a load is the end of the event too, where nothing waited for it (R8, R10). -/
theorem Wakes.endLoad {l : Load} {x : Slot} (before : State) (calm : s.calm = true) (a : (s.ctx ctxA).state ≠ .checking)
    (b : (s.ctx ctxB).state ≠ .checking) (slot : s.slot l.slot = some x) (r : Result) (step written : Nat) :
    Wakes ({ s with store := { s.store with load := none } }.finished l.slot x
      { result := r.code, stepIndex := step, countA := BitVec.ofNat 32 written })
      ((s.endLoad l r step written).settle before) := by
  rw [endLoad_eq slot]
  exact .settle _ _ (calm_of_not_checking calm a b rfl rfl rfl)

end Sys2Proof.Machine

section
open Sys2Proof Sys2Proof.Machine

/-- Settles O33: each clause is one outcome of the dispatch, and the range's holds are its lowest held location. -/
theorem loadIsDecidedByWindowAndHolds : Obligations.LoadIsDecidedByWindowAndHolds := by
  intro s acc tag b i x live taken slot source dest count y bad
  have quiet : ∀ u : State, reachesLoop 1 = true → u.calm = true := fun _ h => absurd h (by decide)
  have good : ¬ bad → loadFieldsOk b = true := fun h => by
    rw [loadFieldsOk_iff]
    simp only [bad, not_or, Bool.not_eq_false] at h
    obtain ⟨h1, h2, h3, h4, h5⟩ := h
    exact ⟨by omega, by omega, by omega, by omega, h5⟩
  refine ⟨fun h => ?_, fun h window => ?_, fun k h window above below held lower => ?_, fun h window free => ?_⟩
  · have fields : loadFieldsOk b = false := Bool.eq_false_iff.2 fun passes => by
      obtain ⟨h1, h2, h3, h4, h5⟩ := (loadFieldsOk_iff b).1 passes
      rcases h with h | h | h | h | h
      · omega
      · omega
      · omega
      · omega
      · rw [h5] at h; cases h
    exact dispatch_finishes (fun _ => rfl) live taken slot (quiet s) (doLoad_badField fields)
  · exact dispatch_finishes (fun _ => rfl) live taken slot (quiet s) (doLoad_badAddress (good h) window)
  · exact dispatch_finishes (fun _ => rfl) live taken slot (quiet s)
      (doLoad_inUse (good h) window ((Store.meets_eq_some_iff ..).2 ⟨above, below, held, lower⟩))
  · obtain ⟨t, run, wakes⟩ := dispatch_wakes (c := .loadProgram acc tag b) (fun _ => rfl) live taken slot
      (doLoad_begins (s := s.setSlot i (some y)) (good h) window ((Store.meets_eq_none_iff ..).2 free)) (quiet _)
    exact ⟨t, _, run, wakes, rfl⟩

/-- Settles O34: what the next source step does is what the step test makes of it, and a load that ends leaves a calm state
calm. -/
theorem loadWritesStepsInOrder : Obligations.LoadWritesStepsInOrder := by
  intro s acc image live
  have arrival : exec (.loadSourceArrival acc image) s = .next (s.sourceStep acc image) :=
    congrArg Host.Outcome.next (if_pos live)
  have failure : exec (.loadSourceReadFail acc) s = .next (s.sourceFails acc) := congrArg Host.Outcome.next (if_pos live)
  rw [arrival, failure]
  refine ⟨fun idle => by simp [State.sourceStep, State.sourceFails, idle], fun l x loading slot => ⟨?_, ?_⟩⟩
  · intro st passes more
    have goesOn : ¬ l.count ≤ l.written + 1 := by omega
    simp [State.sourceStep, loading, State.sourceArrives, passes, goesOn, State.writeLoaded]
  · intro calm a b
    refine ⟨fun st passes last => ⟨_, rfl, ?_⟩, fun fails => ⟨_, rfl, ?_⟩, ⟨_, rfl, ?_⟩⟩
    · simp only [State.sourceStep, loading, State.sourceArrives, passes, if_pos last, if_true]
      exact Wakes.endLoad (s := s.writeLoaded l st) s
        (calm_of_not_checking calm a b rfl rfl rfl) a b slot .done l.dest l.count
    · simp only [State.sourceStep, loading, State.sourceArrives, fails, if_true]
      exact Wakes.endLoad s calm a b slot .badStep _ _
    · simp only [State.sourceFails, loading]
      exact Wakes.endLoad s calm a b slot .sourceFault _ _

end
end

section
/-! RUN: its start in a request context, its prepass and its first step (R13 to R15, R19, R21, R38). -/

namespace Sys2Proof.Machine

open Sys2Proof

variable {s : State} {i : Fin 40} {b : Body}

/-- The record of a request context that starts a RUN: bound to the slot, with the fields of the body (R19, R38). -/
def Context.boundRun (slot : Fin 40) (b : Body) : Context :=
  { Context.zero with
    state := .checking, job := .run, owner := slot, runSequence := u32 b 0x1C, step := (u16 b 0x18).toNat,
    outCursor := u64 b 0x00, outLimit := u64 b 0x00 + BitVec.ofNat 64 (16 * (u32 b 0x10).toNat),
    inCursor := u64 b 0x08, inLimit := u64 b 0x08 + BitVec.ofNat 64 (4 * (u32 b 0x14).toNat),
    lmax := Config.uncomputedBounds.1, wmax := Config.uncomputedBounds.2 }

@[simp] theorem boundRun_owner : (Context.boundRun i b).owner = i := rfl
@[simp] theorem boundRun_cancel : (Context.boundRun i b).cancel = none := rfl
@[simp] theorem boundRun_step : (Context.boundRun i b).step = (u16 b 0x18).toNat := rfl

/-- The state with a RUN bound to a request context, its slot RUNNING (R19, R139). -/
def State.bound (s : State) (j : CtxId) (i : Fin 40) (y : Slot) (b : Body) : State :=
  (s.setSlot i (some { y with state := .running })).setCtx j (Context.boundRun i b)

/-- A RUN that passes its checks starts in context A when A is IDLE (R19, R37, R146). -/
theorem doRun_starts (fields : runFieldsOk b = true) (windows : s.runWindowsOk b = true)
    (working : s.engine.state ≠ .quiescing) (idle : (s.ctx ctxA).state = .idle) :
    s.doRun i b = s.startRequest ctxA i := by
  have quiet : s.quiescing = false := by simpa [State.quiescing] using working
  simp [State.doRun, fields, windows, State.routeOrQuiesce, quiet, State.routeContext, idle]

/-- With no load in progress, the RUN of a slot is bound and its prepass is taken at once (R10, R19). -/
theorem startRequest_run {y : Slot} {tag : BitVec 64} (j : CtxId) (free : s.store.load = none)
    (slot : s.slot i = some y) (record : y.record = some { kind := 2, tag, body := b }) :
    s.startRequest j i = (s.bound j i y b).runPrepass j := by
  have kept : s.recordOf i = some { kind := 2, tag, body := b } := by simp [State.recordOf, slot, record]
  have body : s.bodyOf i = b := by simp [State.bodyOf, kept]
  have running : s.setSlotState i .running = s.setSlot i (some { y with state := .running }) := by
    simp [State.setSlotState, slot]
  simp [State.startRequest, kept, body, running, free, State.bound, Context.boundRun]

section
variable {y : Slot} {tag : BitVec 64} (j : CtxId)

@[simp] theorem bound_store : (s.bound j i y b).store = s.store := rfl
@[simp] theorem bound_ctx : (s.bound j i y b).ctx j = Context.boundRun i b := State.ctx_setCtx_same ..

/-- The slot of a bound RUN. -/
theorem bound_slot : (s.bound j i y b).slot i = some { y with state := .running } := by simp [State.bound]

theorem bound_body (record : y.record = some { kind := 2, tag, body := b }) : (s.bound j i y b).bodyOf i = b := by
  simp [State.bodyOf, State.recordOf, bound_slot, record]

/-- A bound RUN that ends before its first step: its slot READY with the record, and its context IDLE (R38, R39). -/
theorem bound_refused (d : DoneRecord) (bytes : List Byte) : ∃ c : Context, c.state = .idle ∧
    ((s.bound j i y b).finish i d 0x20 bytes).toIdle j =
      { s.finished i y d 0x20 bytes with contexts := s.contexts.set j c } := by
  refine ⟨{ Context.boundRun i b with state := .idle, timer := none, inputRead := none }, rfl, ?_⟩
  rw [finish_eq _ _ _ _ _ _ (bound_slot j)]
  simp [State.toIdle, State.bound, State.finished, State.resultWrites, State.frameAddr, State.setCtx, State.setSlot, State.ctx]

variable (record : y.record = some { kind := 2, tag, body := b })
include record

theorem runPrepass_vacant {k : Nat} (walk : prepass s.store (u16 b 0x18).toNat = .vacant k) :
    (s.bound j i y b).runPrepass j =
      ((s.bound j i y b).finish i { result := 6, stepIndex := k } 0x20 (zeros 16)).toIdle j := by
  simp [State.runPrepass, bound_body j record, walk, Result.code]

theorem runPrepass_noEnd {k : Nat} (walk : prepass s.store (u16 b 0x18).toNat = .noEnd k) :
    (s.bound j i y b).runPrepass j =
      ((s.bound j i y b).finish i { result := 5, stepIndex := k } 0x20 (zeros 16)).toIdle j := by
  simp [State.runPrepass, bound_body j record, walk, Result.code]

theorem runPrepass_short {last l w : Nat} (walk : prepass s.store (u16 b 0x18).toNat = .complete last l w)
    (short : (u32 b 0x10).toNat < l ∨ (u32 b 0x14).toNat < w) :
    (s.bound j i y b).runPrepass j =
      ((s.bound j i y b).finish i
        { result := 4, stepIndex := (u16 b 0x18).toNat, countA := BitVec.ofNat 32 l, countB := BitVec.ofNat 32 w } 0x20
        (zeros 8 ++ le 4 l ++ le 4 w)).toIdle j := by
  simp [State.runPrepass, bound_body j record, walk, short, Result.code]

theorem runPrepass_accepts {last l w : Nat} (walk : prepass s.store (u16 b 0x18).toNat = .complete last l w)
    (out : l ≤ (u32 b 0x10).toNat) (inp : w ≤ (u32 b 0x14).toNat) :
    (s.bound j i y b).runPrepass j =
      (((s.bound j i y b).setCtx j { Context.boundRun i b with lmax := l, wmax := w }).placeHold j
        { first := (u16 b 0x18).toNat, last }).beginStepAt j := by
  have fits : ¬ ((u32 b 0x10).toNat < l ∨ (u32 b 0x14).toNat < w) := by omega
  simp [State.runPrepass, bound_body j record, walk, fits]
end

/-- The last record written to a context stands. -/
@[simp] theorem setCtx_setCtx_same (u : State) (j : CtxId) (c d : Context) : (u.setCtx j c).setCtx j d = u.setCtx j d := by
  simp [State.setCtx]

/-- An EXCHANGE step without an input word begins: its element waits for its grant in ISSUING (R21, R22, R23). -/
theorem beginStepAt_exchange {u : State} {j : CtxId} {e : Exchange} (going : (u.ctx j).cancel = none)
    (step : fetchStep u.store.steps (u.ctx j).step = some (.exchange e)) (inline : e.access.isInput = false)
    (up : u.loop.state ≠ .down) :
    u.beginStepAt j = u.setCtx j
      { u.ctx j with
        elem := e, remaining := 1, element := 0, state := .issuing, retries := u.engine.config.retryLimit, readyWait := 0,
        readyOn := false, attempts := 0, held := none, timer := none } := by
  unfold State.beginStepAt beginStep
  simp [going, step, State.beginElement, up, inline]

/-- A bound RUN whose buffers are long enough and whose first step is an EXCHANGE without an input word: its hold is placed,
its bounds are set, and its first element waits for its grant (R15, R21, R38). -/
theorem runPrepass_exchange {y : Slot} {tag : BitVec 64} (j : CtxId) {last l w : Nat} {e : Exchange}
    (record : y.record = some { kind := 2, tag, body := b })
    (walk : prepass s.store (u16 b 0x18).toNat = .complete last l w)
    (out : l ≤ (u32 b 0x10).toNat) (inp : w ≤ (u32 b 0x14).toNat)
    (first : fetchStep s.store.steps (u16 b 0x18).toNat = some (.exchange e)) (inline : e.access.isInput = false)
    (up : s.loop.state ≠ .down) :
    (s.bound j i y b).runPrepass j = { s with
      store := { s.store with holds := s.store.holds.set j (some { first := (u16 b 0x18).toNat, last }) },
      intake := { s.intake with custody := s.intake.custody.set i (some { y with state := .running }) },
      contexts := s.contexts.set j { Context.boundRun i b with
        state := .issuing, lmax := l, wmax := w, elem := e, remaining := 1, element := 0,
        retries := s.engine.config.retryLimit } } := by
  rw [runPrepass_accepts j record walk out inp]
  refine (beginStepAt_exchange (e := e) ?going ?step inline ?up).trans ?_
  case going => simp
  case step => simpa using first
  case up => exact up
  simp [State.bound, State.setCtx, State.setSlot, State.placeHold, State.ctx, Context.boundRun, Context.zero]

end Sys2Proof.Machine

section
open Sys2Proof Sys2Proof.Machine

/-- Settles O36: the RUN is bound to context A, and each prepass result is one clause; the end of the event then finds at
most context A eligible. -/
theorem runStartsInContextA : Obligations.RunStartsInContextA := by
  intro s acc tag b i x live taken slot calm working fields windows idle free start y
  have record : y.record = some { kind := 2, tag, body := b } := rfl
  have none_pending : s.intake.pendingList = [] := by
    simp only [State.calm, Bool.and_eq_true, Bool.or_eq_true, List.isEmpty_iff, bne_iff_ne] at calm
    exact calm.2.resolve_right fun busy => busy.1 idle
  have run : exec (.run acc tag b) s = .next (((s.bound ctxA i y b).runPrepass ctxA).settle s) := by
    refine dispatch_eq (kind := 2) (fun _ => rfl) live taken slot ?_
    show (s.setSlot i (some y)).doRun i b = _
    rw [doRun_starts (s := s.setSlot i (some y)) fields windows working idle,
      startRequest_run (s := s.setSlot i (some y)) ctxA free (State.slot_setSlot_same ..) record]
    simp [State.bound, State.setSlot]
  have refused : ∀ (d : DoneRecord) (bytes : List Byte),
      (s.bound ctxA i y b).runPrepass ctxA = ((s.bound ctxA i y b).finish i d 0x20 bytes).toIdle ctxA →
      ∃ t c, exec (.run acc tag b) s = .next t ∧ c.state = .idle ∧
        Wakes { s.finished i y d 0x20 bytes with contexts := s.contexts.set 8 c } t := by
    intro d bytes ends
    obtain ⟨c, ended, left⟩ := bound_refused (s := s) (b := b) (y := y) (i := i) ctxA d bytes
    refine ⟨_, c, run, ended, ?_⟩
    rw [ends, left]
    exact .settle_idle s ctxA c calm rfl rfl rfl (.inl (by rw [ended]; decide)) (.inl none_pending)
      (by simp [Context.eligible, ended])
  refine ⟨fun k walk => refused _ _ (runPrepass_vacant _ record walk),
    fun k walk => refused _ _ (runPrepass_noEnd _ record walk),
    fun last l w walk short => refused _ _ (runPrepass_short _ record walk short),
    fun last l w e walk out inp first inline up present => ?_⟩
  refine ⟨_, _, run, ?_, rfl⟩
  rw [runPrepass_exchange ctxA record walk out inp first inline up]
  exact .settle_changed s ctxA _ calm rfl rfl rfl (.inl (by simp)) (.inl none_pending) fun grant _ => present grant
end
end

section
/-! START CADENCE: its checks in R90's order, and the cadence it sets up (R89 to R92). -/

namespace Sys2Proof.Machine

open Sys2Proof

/-- The cadence that a number byte of at most 7 names. -/
theorem cadenceAt_eq {b : Body} {offset : Nat} {n : Fin 8} (h : (u8 b offset).toNat = n.val) : cadenceAt b offset = n := by
  rw [cadenceAt, h]; exact Fin.ext (Nat.mod_eq_of_lt n.isLt)

variable {s : State} {i : Fin 40} {b : Body} {n : Fin 8}

section
variable (fields : startFieldsOk b = true) (number : (u8 b 0x1A).toNat = n.val)
include fields

theorem doStart_badAddress (window : s.inWindow true (u64 b 0x00) (16 * (u32 b 0x10).toNat) = false) :
    s.doStart i b = s.finish i { result := 3 } := by
  simp [State.doStart, fields, window, State.refuse, Result.code]

include number

theorem doStart_inUse (window : s.inWindow true (u64 b 0x00) (16 * (u32 b 0x10).toNat) = true)
    (busy : (s.cad n).state ≠ .idle) : s.doStart i b = s.finish i { result := 8 } := by
  simp [State.doStart, fields, window, cadenceAt_eq number, busy, State.refuse, Result.code]

variable (window : s.inWindow true (u64 b 0x00) (16 * (u32 b 0x10).toNat) = true) (idle : (s.cad n).state = .idle)
include window idle

/-- A START CADENCE for an IDLE cadence that its prepass, or what follows from its bounds, refuses (R90). -/
theorem doStart_refused {d : DoneRecord}
    (refusal : startRefusal s.quiescing b (prepass s.store (u16 b 0x18).toNat) = some d) :
    s.doStart i b = s.finish i d := by
  simp [State.doStart, fields, window, cadenceAt_eq number, idle, refusal]

theorem doStart_accepts {last l w : Nat} (walk : prepass s.store (u16 b 0x18).toNat = .complete last l w)
    (accepted : startRefusal s.quiescing b (.complete last l w) = none) :
    s.doStart i b = s.acceptStart i n b last (l + 1) := by
  simp [State.doStart, fields, window, cadenceAt_eq number, idle, walk, accepted]

end

/-- An accepted START CADENCE with a phase: hold, record, slot and trigger timer, and no trigger in the event (R91, R92). -/
theorem acceptStart_waits {x : Slot} (last lmax : Nat) (slot : s.slot i = some x) (phase : u32 b 0x0C ≠ 0) :
    s.acceptStart i n b last lmax = { s with
      store := { s.store with holds := s.store.holds.set n.val (some { first := (u16 b 0x18).toNat, last }) },
      intake := { s.intake with custody := s.intake.custody.set i (some { x with state := .cadence }) },
      cadences := s.cadences.set n (Cadence.start i b lmax) } := by
  have held : ((s.placeHold (contextOf n) { first := (u16 b 0x18).toNat, last }).setCad n
      (Cadence.start i b lmax)).slot i = some x := slot
  unfold State.acceptStart State.setSlotState
  simp only [held, if_neg phase]
  rfl

end Sys2Proof.Machine

section
open Sys2Proof Sys2Proof.Machine

/-- Settles O39: the checks of a START CADENCE in their order, each clause the first that fails or none. -/
theorem startCadenceSetsUpRecord : Obligations.StartCadenceSetsUpRecord := by
  intro s acc tag b i x n live taken slot calm fields number start inside ends counted
  have finishes : ∀ {d : DoneRecord}, (s.setSlot i (some (x.kept 4 tag b))).doStart i b =
      (s.setSlot i (some (x.kept 4 tag b))).finish i d → ends d :=
    fun effect => dispatch_finishes (fun _ => rfl) live taken slot (fun _ => calm) effect
  refine ⟨fun window => finishes (doStart_badAddress fields window),
    fun window busy => finishes (doStart_inUse fields number window busy), fun window idle => ?_⟩
  have refused : ∀ {d : DoneRecord}, startRefusal s.quiescing b (prepass s.store start) = some d → ends d :=
    fun refusal => finishes (doStart_refused (s := s.setSlot i (some (x.kept 4 tag b)))
      fields number window idle refusal)
  refine ⟨fun k walk => refused (by rw [walk]; rfl), fun k walk => refused (by rw [walk]; rfl), fun last l w walk => ?_⟩
  rw [walk] at refused
  refine ⟨fun input => refused ?_, fun none short => refused ?_, fun none long quiescing => refused ?_,
    fun none long working phase => ?_⟩
  · simp [startRefusal, input, Result.code, start]
  · simp [startRefusal, none, short, Result.code, start]
  · have quiet : s.quiescing = true := by simp [State.quiescing, quiescing]
    simp [startRefusal, none, Nat.not_lt.2 long, quiet, Result.code, start]
  · have going : s.quiescing = false := by simpa [State.quiescing] using working
    have accepted : startRefusal s.quiescing b (.complete last l w) = .none := by
      simp [startRefusal, none, Nat.not_lt.2 long, going]
    have effect : (s.setSlot i (some (x.kept 4 tag b))).doStart i b = _ :=
      (doStart_accepts (s := s.setSlot i (some (x.kept 4 tag b))) fields number window idle walk accepted).trans
        (acceptStart_waits last (l + 1) (State.slot_setSlot_same ..) phase)
    obtain ⟨t, run, wakes⟩ := dispatch_wakes (c := .startCadence acc tag b) (fun _ => rfl) live taken slot effect
      fun _ => calm
    refine ⟨t, _, run, wakes, ?_⟩
    simp [State.setSlot, Cadence.start, Cadence.zero, start]

end
end

section
/-! The idle step: one microsecond passes, and the message-enable input is sampled (R30, R165, R170, R171). -/

namespace Sys2Proof.Machine

open Sys2Proof

/-- A function applied to every element of a table, read back at one place. -/
theorem getElem_mapTable {α β : Type} {n : Nat} (f : α → β) (v : Vector α n) (k : Nat) (h : k < n) :
    (mapTable f v)[k] = f v[k] := by
  simp [mapTable]

variable {s : State}

/-- What sampling the message-enable input can change. -/
theorem sampleEnable_eq : ∃ enable samples,
    s.sampleEnable = { s with
      engine := { s.engine with messageEnable := enable }, pins := { s.pins with samples } } ∧
    (s.windowAnswers = false → enable = s.engine.messageEnable ∧ samples = s.pins.samples) := by
  unfold State.sampleEnable
  split
  · rename_i answers
    exact ⟨_, _, rfl, fun silent => by rw [answers] at silent; cases silent⟩
  · exact ⟨s.engine.messageEnable, s.pins.samples, rfl, fun _ => ⟨rfl, rfl⟩⟩

/-- A context's ready-wait grows by one where it is started, the context is busy and the loop is OPEN (R30). -/
theorem Context.tick_eq (l : LoopState) (c : Context) : c.tick (l == .opened) = { c with
    timer := c.timer.map (· - 1),
    readyWait := c.readyWait + if l = .opened ∧ c.readyOn = true ∧ c.state ≠ .idle then 1 else 0 } := by
  unfold Context.tick Timer.tick
  by_cases grows : l = .opened ∧ c.readyOn = true ∧ c.state ≠ .idle
  · simp [grows]
  · have stays : ((l == .opened) && c.readyOn && (c.state != .idle)) = false := by
      simpa [Bool.and_eq_false_iff, not_and_or, or_assoc] using grows
    simp [grows, stays]

/-- One microsecond of the Queue Unit: the operation of each queue goes on by one (R127, R128). -/
theorem op_map_tick (u : QueueUnit) (q : Queue) :
    QueueUnit.op { u with request := u.request.map QueueOp.tick, done := u.done.map QueueOp.tick,
                          spare := u.spare.map QueueOp.tick } q =
      (u.op q).map fun o => { o with timer := o.timer.map (· - 1), stall := o.stall.map (· - 1) } := by
  cases q <;> rfl

end Sys2Proof.Machine

section
open Sys2Proof Sys2Proof.Machine

/-- Settles O2: the step is the passing of the microsecond, read table by table, and then the sample. -/
theorem idleStepPassesMicrosecond : Obligations.IdleStepPassesMicrosecond := by
  intro s idle
  have run : step s = .next s.passMicrosecond.sampleEnable := by unfold step; rw [idle]; rfl
  obtain ⟨enable, samples, sampled, silent⟩ := sampleEnable_eq (s := s.passMicrosecond)
  have still : s.live = false → s.passMicrosecond = s := fun dead => by simp [State.passMicrosecond, dead]
  have pins : s.passMicrosecond.pins = s.pins := by unfold State.passMicrosecond; split <;> rfl
  have enabled : s.passMicrosecond.engine.messageEnable = s.engine.messageEnable := by
    unfold State.passMicrosecond; split <;> rfl
  have answers : s.passMicrosecond.windowAnswers = s.windowAnswers := by simp only [State.windowAnswers, pins]
  rw [answers, pins, enabled] at silent
  rw [pins] at sampled
  refine ⟨_, run, ?_⟩
  rw [sampled]
  refine ⟨rfl, fun quiet => ?_, fun dead => ?_, fun live => ?_⟩
  · obtain ⟨rfl, rfl⟩ := silent quiet; exact ⟨rfl, rfl⟩
  · rw [still dead]
  · have passed : s.passMicrosecond = _ := if_pos live
    rw [passed]
    refine ⟨rfl, fun i => ?_, fun n => ?_, op_map_tick s.queues, rfl⟩
    · exact (getElem_mapTable _ _ _ _).trans (Context.tick_eq ..)
    · exact getElem_mapTable _ _ _ _

end
end

section
/-! Contexts at work (chapter 2): what each of their operations makes of a state whose context has just been written. A state
`u.setCtx i c` is `u` with the record `c` of context `i`, so that every operation below is said by what it makes of `u`
and of `c`. -/

namespace Sys2Proof.Machine

open Sys2Proof

variable {u : State} {i : CtxId} {c : Context}

@[simp] theorem setCtx_self (s : State) (i : CtxId) : s.setCtx i (s.ctx i) = s := by
  simp [State.setCtx, State.ctx]

/-! ### Elements -/

/-- The record of a context whose element begins: its per-element fields set, in ISSUING (R23). -/
def Context.begun (c : Context) (retries : Nat) : Context :=
  { c with state := .issuing, retries, readyWait := 0, readyOn := false, attempts := 0, held := none, timer := none }

/-- An element without an input word waits for its grant (R23). -/
theorem beginElement_inline (up : u.loop.state ≠ .down) (inline : c.elem.access.isInput = false) :
    (u.setCtx i c).beginElement i = u.setCtx i (c.begun u.engine.config.retryLimit) := by
  simp [State.beginElement, up, inline, Context.begun]

/-- While its input word is being read an element is not to be granted (R22, R50). -/
theorem input_not_eligible (input : c.elem.access.isInput = true) (held : c.held = none) : c.eligible = false := by
  simp [Context.eligible, input, held]

/-- An element with an input word first reads it (R22). -/
theorem beginElement_input (up : u.loop.state ≠ .down) (input : c.elem.access.isInput = true) :
    (u.setCtx i c).beginElement i = (u.access fun acc => .read acc c.inCursor 4).setCtx i
      { c.begun u.engine.config.retryLimit with inputRead := some u.link.nextAcc } := by
  simp [State.beginElement, up, input, Context.begun]
  simp [State.setCtx, State.access]

/-- With the loop DOWN an element fails at once (R23, R44). -/
theorem beginElement_down (down : u.loop.state = .down) :
    (u.setCtx i c).beginElement i = (u.setCtx i (c.begun u.engine.config.retryLimit)).halt i .loopDown := by
  simp [State.beginElement, down, Context.begun]

/-- The record of an element that has ended: its input word consumed, its ready-wait no longer growing (R30, R36). -/
def Context.ended (c : Context) : Context :=
  let c1 : Context := if c.elem.access.isInput then { c with inCursor := c.inCursor + 4, words := c.words + 1 } else c
  { c1 with remaining := c.remaining - 1, readyOn := false }

@[simp] theorem ended_remaining : c.ended.remaining = c.remaining - 1 := rfl

/-- With elements left in its step, the next one begins (R21, R36). -/
theorem endElement_more (going : c.cancel = none) (more : 1 < c.remaining) :
    (u.setCtx i c).endElement i = (u.setCtx i { c.ended with element := c.element + 1 }).beginElement i := by
  have left : 0 < c.remaining - 1 := by omega
  simp [State.endElement, going, left, Context.ended]

/-- The last element of a step leads on to the next step (R21, R36). -/
theorem endElement_last (going : c.cancel = none) (last : c.remaining ≤ 1) :
    (u.setCtx i c).endElement i = (u.setCtx i c.ended).nextStep i := by
  have left : ¬ 0 < c.remaining - 1 := by omega
  simp [State.endElement, going, left, Context.ended]

/-- A cancelled context ends behind its element (R43). -/
theorem endElement_cancelled (cancelled : c.cancel.isSome = true) :
    (u.setCtx i c).endElement i = (u.setCtx i c.ended).endCancelled i := by
  simp [State.endElement, cancelled, Context.ended]

/-! ### Steps -/

theorem nextStep_eq : (u.setCtx i c).nextStep i = (u.setCtx i { c with step := c.step + 1 }).beginStepAt i := by
  simp [State.nextStep]

section
variable (going : c.cancel = none)
include going

/-- An EXCHANGE or BLOCK step begins with its first element (R21). -/
theorem beginStepAt_element {st : Step} {e : Exchange} {n : Nat} (step : fetchStep u.store.steps c.step = some st)
    (loops : (st = .exchange e ∧ n = 1) ∨ ∃ count : BitVec 16, st = .block e count ∧ n = count.toNat) :
    (u.setCtx i c).beginStepAt i = (u.setCtx i { c with elem := e, remaining := n, element := 0 }).beginElement i := by
  rcases loops with ⟨rfl, rfl⟩ | ⟨count, rfl, rfl⟩ <;> simp [State.beginStepAt, beginStep, going, step]

/-- A PAUSE step starts its timer (R21). -/
theorem beginStepAt_pause {n : BitVec 16} (step : fetchStep u.store.steps c.step = some (.pause n)) :
    (u.setCtx i c).beginStepAt i = u.setCtx i { c with state := .paused, timer := some n.toNat } := by
  simp [State.beginStepAt, beginStep, going, step]

/-- The END step ends the run (R21). -/
theorem beginStepAt_end (step : fetchStep u.store.steps c.step = some .endStep) :
    (u.setCtx i c).beginStepAt i = (u.setCtx i c).endRun i := by
  simp [State.beginStepAt, beginStep, going, step]

end

/-! ### Entries -/

/-- The entry that a context writes as it stands (R35). -/
def Context.entry (c : Context) (now : Word) (kind : EntryKind) (station : BitVec 6) (element : Nat)
    (ack ready failed : Bool) (data : Word) : List Byte :=
  Entry.bytes
    { kind, runSequence := c.runSequence, step := c.step, station, element, ack, ready, failed,
      shortEnd := c.shortPending, data, time := now }

/-- The record of a context that has written an entry (R35). -/
def Context.wrote (c : Context) : Context := { c with shortPending := false, entries := c.entries + 1 }

theorem entry_ne_nil (e : Entry) : e.bytes ≠ [] := by simp [Entry.bytes, le32, le]

/-- A post of some bytes is a write issued. -/
theorem post_eq (s : State) (a : Addr) {b : List Byte} (some : b ≠ []) : s.post a b = s.issue (.write a b) := if_neg some

section
variable (kind : EntryKind) (station : BitVec 6) (element : Nat) (ack ready failed : Bool) (data : Word)

theorem post_entry (s : State) (a : Addr) (now : Word) :
    s.post a (c.entry now kind station element ack ready failed data) =
      s.issue (.write a (c.entry now kind station element ack ready failed data)) := post_eq _ _ (entry_ne_nil _)

/-- A RUN writes its entry at its output cursor (R35). -/
theorem writeEntry_run (job : c.job = .run) :
    (u.setCtx i c).writeEntry i kind station element ack ready failed data =
      (u.issue (.write c.outCursor (c.entry u.engine.timeBase kind station element ack ready failed data))).setCtx i
        { c.wrote with outCursor := c.outCursor + 16 } := by
  simp [State.writeEntry, job, post_eq _ _ (entry_ne_nil _), Context.entry, Context.wrote]
  simp [State.setCtx, State.issue]

end

/-- A MARK writes its entry and the PAUSE behind it begins in the same event (R21, R35). -/
theorem beginStepAt_mark_pause {label : Word} {n : BitVec 16} (going : c.cancel = none) (job : c.job = .run)
    (mark : fetchStep u.store.steps c.step = some (.mark label))
    (pause : fetchStep u.store.steps (c.step + 1) = some (.pause n)) :
    (u.setCtx i c).beginStepAt i =
      (u.issue (.write c.outCursor (c.entry u.engine.timeBase .mark 0 0 false false false label))).setCtx i
        { c.wrote with
          outCursor := c.outCursor + 16, step := c.step + 1, state := .paused, timer := some n.toNat } := by
  unfold State.beginStepAt beginStep
  simp [going, mark, writeEntry_run _ _ _ _ _ _ _ job, Context.wrote]
  unfold beginStep
  simp [pause]

/-! ### Ends -/

/-- The record of a context that has returned to IDLE (R22, R43). -/
def Context.rested (c : Context) : Context := { c with state := .idle, timer := none, inputRead := none }

@[simp] theorem rested_state : c.rested.state = .idle := rfl

theorem toIdle_eq : (u.setCtx i c).toIdle i = u.setCtx i c.rested := by simp [State.toIdle, Context.rested]

@[simp] theorem setCtx_finished (k : Fin 40) (x : Slot) (d : DoneRecord) (o : Nat) (b : List Byte) :
    (u.setCtx i c).finished k x d o b = (u.finished k x d o b).setCtx i c := rfl

@[simp] theorem setCtx_dropHold (j : CtxId) : (u.setCtx i c).dropHold j = (u.dropHold j).setCtx i c := rfl

/-- The done record of a RUN that ends with a result (R39). -/
def Context.runRecord (c : Context) (result : Nat) : DoneRecord :=
  { result, stepError := (c.failing.map fun f => f.error.code).getD 0,
    station := (c.failing.map fun f => f.station.toNat).getD 0, stepIndex := (c.failing.map fun f => f.step).getD 0,
    countA := BitVec.ofNat 32 c.entries, countB := BitVec.ofNat 32 c.words }

/-- A RUN that is not cancelled completes: its record written, its hold removed, its context IDLE (R39). -/
theorem completeRun_eq {z : Slot} (r : Result) (going : c.cancel = none) (slot : u.slot c.owner = some z) :
    (u.setCtx i c).completeRun i r =
      ((u.finished c.owner z (c.runRecord r.code) 0x20 c.runBytes).dropHold i).setCtx i c.rested := by
  have kept : (u.setCtx i c).slot c.owner = some z := slot
  simp [State.completeRun, finish_eq _ _ _ _ _ _ kept, toIdle_eq, Context.result, going, Context.runRecord]

/-- The record of a context that a step error halts (R32). -/
def Context.failed (c : Context) (err : StepError) : Context :=
  { c with failing := some { step := c.step, error := err, station := c.elem.station } }

theorem halt_of_run (err : StepError) (job : c.job = .run) :
    (u.setCtx i c).halt i err = (u.setCtx i (c.failed err)).completeRun i .stepFailed := by
  simp [State.halt, job, Context.failed]

theorem halt_of_exchange (err : StepError) (job : c.job = .exchange) :
    (u.setCtx i c).halt i err = (u.setCtx i (c.failed err)).completeExchange i .stepFailed := by
  simp [State.halt, job, Context.failed]

theorem halt_of_cadence (err : StepError) (job : c.job = .cadence) :
    (u.setCtx i c).halt i err =
      (((u.setCtx i (c.failed err)).writeEntry i .fault c.elem.station c.element false false true
        (BitVec.ofNat 32 err.code)).countFailedRun i).endCadenceRun i := by
  simp [State.halt, job, Context.failed]

theorem endRun_of_run (job : c.job = .run) : (u.setCtx i c).endRun i = (u.setCtx i c).completeRun i .done := by
  simp [State.endRun, job]

theorem endRun_of_cadence (job : c.job = .cadence) : (u.setCtx i c).endRun i = (u.setCtx i c).endCadenceRun i := by
  simp [State.endRun, job]

/-- A step error halts a RUN: STEP FAILED, with the step, its error and its station (R34, R39). -/
theorem halt_run {z : Slot} (err : StepError) (job : c.job = .run) (going : c.cancel = none)
    (slot : u.slot c.owner = some z) : ∃ c' : Context, c'.state = .idle ∧
    (u.setCtx i c).halt i err =
      ((u.finished c.owner z
        { result := 14, stepError := err.code, station := c.elem.station.toNat, stepIndex := c.step,
          countA := BitVec.ofNat 32 c.entries, countB := BitVec.ofNat 32 c.words } 0x20
        (le 4 c.shortSteps ++ le 4 c.continued ++ le 4 c.lmax ++ le 4 c.wmax)).dropHold i).setCtx i c' := by
  refine ⟨(c.failed err).rested, rfl, ?_⟩
  rw [halt_of_run err job]
  exact completeRun_eq .stepFailed going slot

/-- A step error that its step does not pass over halts the run (R32, R34). -/
theorem stepError_halts (err : StepError) (ack ready : Bool)
    (halting : err.followsOnError = false ∨ c.elem.goOn = false) :
    (u.setCtx i c).stepError i err ack ready = (u.setCtx i c).halt i err := by
  rcases halting with h | h <;> simp [State.stepError, h]

/-- An EXCHANGE that is not cancelled completes DONE (R41). -/
theorem completeExchange_done {z : Slot} (going : c.cancel = none) (slot : u.slot c.owner = some z) :
    (u.setCtx i c).completeExchange i .done =
      (u.finished c.owner z { result := 0, station := c.elem.station.toNat } 0x10 (c.exchangeBytes false)).setCtx i
        c.rested := by
  have kept : (u.setCtx i c).slot c.owner = some z := slot
  simp [State.completeExchange, finish_eq _ _ _ _ _ _ kept, toIdle_eq, Context.result, going, Result.code]
  rfl

/-- An EXCHANGE halted by a step error completes STEP FAILED (R34, R41). -/
theorem halt_exchange {z : Slot} (err : StepError) (job : c.job = .exchange) (going : c.cancel = none)
    (slot : u.slot c.owner = some z) : ∃ c' : Context, c'.state = .idle ∧
    (u.setCtx i c).halt i err =
      (u.finished c.owner z { result := 14, stepError := err.code, station := c.elem.station.toNat } 0x10
        (c.exchangeBytes true)).setCtx i c' := by
  refine ⟨(c.failed err).rested, rfl, ?_⟩
  have kept : (u.setCtx i (c.failed err)).slot (c.failed err).owner = some z := slot
  have result : (c.failed err).result .stepFailed = .stepFailed := by simp [Context.result, Context.failed, going]
  rw [halt_of_exchange err job]
  unfold State.completeExchange
  simp only [State.ctx_setCtx_same, result, finish_eq _ _ _ _ _ _ kept, setCtx_finished, toIdle_eq]
  rfl

/-! ### Cadence contexts -/

@[simp] theorem cadenceOf_contextOf (n : Fin 8) : cadenceOf (contextOf n) = some n := by simp [cadenceOf, contextOf]

theorem eq_contextOf {n : Fin 8} (h : i.val = n.val) : i = contextOf n := Fin.ext h

@[simp] theorem setCad_setCad_same (s : State) (n : Fin 8) (k l : Cadence) : (s.setCad n k).setCad n l = s.setCad n l := by
  simp [State.setCad]

@[simp] theorem setCad_self (s : State) (n : Fin 8) : s.setCad n (s.cad n) = s := by
  simp [State.setCad, State.cad]

theorem setCtx_setCad (n : Fin 8) (k : Cadence) : (u.setCtx i c).setCad n k = (u.setCad n k).setCtx i c := rfl

variable {n : Fin 8} {k : Cadence}

/-- A cadence reaches IDLE: its START frame STOPPED with its reason, its timer stopped, its hold removed (R105). -/
theorem cadenceIdle_eq {z : Slot} (slot : u.slot k.startSlot = some z) :
    (u.setCad n k).cadenceIdle n =
      ((u.finished k.startSlot z
        { result := 16, stepError := k.reason.code, stepIndex := k.programStart.toNat, countA := k.p,
          countB := k.runsStarted } 0x20 k.startBytes).dropHold (contextOf n)).setCad n
        { k with state := .idle, trigger := none, owed := false } := by
  unfold State.cadenceIdle
  simp only [State.cad_setCad_same, setCad_setCad_same]
  exact finish_eq _ _ _ _ _ _ slot

/-- The end of a run returns a RUNNING cadence to WAITING (R96). -/
theorem endCadenceRun_running (cad : u.cad n = k) (running : k.state = .running) :
    (u.setCtx (contextOf n) c).endCadenceRun (contextOf n) =
      (u.setCad n { k with state := .waiting }).setCtx (contextOf n) c.rested := by
  subst cad
  simp [State.endCadenceRun, toIdle_eq, State.reportRun, running, setCtx_setCad]

/-- The end of a run takes a STOPPING cadence to IDLE (R96, R105). -/
theorem endCadenceRun_stopping {z : Slot} (stopping : k.state = .stopping) (slot : u.slot k.startSlot = some z) :
    ((u.setCad n k).setCtx (contextOf n) c).endCadenceRun (contextOf n) =
      (((u.finished k.startSlot z
        { result := 16, stepError := k.reason.code, stepIndex := k.programStart.toNat, countA := k.p,
          countB := k.runsStarted } 0x20 k.startBytes).dropHold (contextOf n)).setCad n
        { k with state := .idle, trigger := none, owed := false }).setCtx (contextOf n) c.rested := by
  have idle := cadenceIdle_eq (u := u.setCtx (contextOf n) c.rested) (n := n) (k := k) slot
  rw [setCtx_setCad] at idle
  simp only [State.endCadenceRun, cadenceOf_contextOf, toIdle_eq, State.reportRun, State.cad_setCtx,
    State.cad_setCad_same, stopping, idle]
  rfl

/-- A cadence with one more entry in its ring, an interval boundary crossed with notice outstanding clear (R98, R99). -/
def Cadence.advanced (k : Cadence) : Cadence :=
  if k.p + 1 = k.nextBoundary then
    { k with p := k.p + 1, outstanding := true, owed := true, nextBoundary := k.nextBoundary + k.interval }
  else { k with p := k.p + 1 }

@[simp] theorem advanced_state : k.advanced.state = k.state := by unfold Cadence.advanced; split <;> rfl

/-- P counts an entry; at an interval boundary with notice outstanding clear a notice becomes owed (R98, R99). -/
theorem pushEntry_clear {bytes : List Byte} (cad : u.cad n = k)
    (clear : k.p + 1 ≠ k.nextBoundary ∨ k.outstanding = false) :
    u.pushEntry n bytes = (u.post k.entryAddr bytes).setCad n k.advanced := by
  subst cad
  unfold State.pushEntry Cadence.advanced
  by_cases crossed : (u.cad n).p + 1 = (u.cad n).nextBoundary
  · have silent := clear.resolve_left (not_not_intro crossed)
    simp only [if_pos crossed, State.boundary, State.cad_setCad_same, silent, setCad_setCad_same]
    rfl
  · simp only [if_neg crossed]

/-- At an interval boundary with notice outstanding set a RUNNING cadence stops LAGGING (R99, R103). -/
theorem pushEntry_lagging {bytes : List Byte} (cad : u.cad n = k) (running : k.state = .running)
    (crossed : k.p + 1 = k.nextBoundary) (outstanding : k.outstanding = true) :
    u.pushEntry n bytes =
      ((u.post k.entryAddr bytes).setCad n { k with p := k.p + 1, state := .stopping, reason := .lagging }).flagCancel
        (contextOf n) .stop := by
  subst cad
  unfold State.pushEntry
  simp only [if_pos crossed, State.boundary, State.cad_setCad_same, outstanding, running, setCad_setCad_same, if_true]

section
variable (kind : EntryKind) (station : BitVec 6) (element : Nat) (ack ready failed : Bool) (data : Word)

theorem writeEntry_of_cadence (job : c.job = .cadence) :
    (u.setCtx (contextOf n) c).writeEntry (contextOf n) kind station element ack ready failed data =
      (u.setCtx (contextOf n) c.wrote).pushEntry n
        (c.entry u.engine.timeBase kind station element ack ready failed data) := by
  simp [State.writeEntry, job, Context.entry, Context.wrote]

/-- A cadence context writes its entry into its ring, where P counts it (R35, R98, R99). -/
theorem writeEntry_cadence (job : c.job = .cadence) (cad : u.cad n = k)
    (clear : k.p + 1 ≠ k.nextBoundary ∨ k.outstanding = false) :
    (u.setCtx (contextOf n) c).writeEntry (contextOf n) kind station element ack ready failed data =
      ((u.issue (.write k.entryAddr (c.entry u.engine.timeBase kind station element ack ready failed data))).setCad n
        k.advanced).setCtx (contextOf n) c.wrote := by
  rw [writeEntry_of_cadence _ _ _ _ _ _ _ job, pushEntry_clear (u := u.setCtx (contextOf n) c.wrote) cad clear,
    post_entry]
  rfl

/-- An entry that reaches a boundary with notice outstanding stops a RUNNING cadence LAGGING (R99, R103). -/
theorem writeEntry_lagging (job : c.job = .cadence) (going : c.cancel = none) (cad : u.cad n = k)
    (running : k.state = .running) (crossed : k.p + 1 = k.nextBoundary) (outstanding : k.outstanding = true) :
    (u.setCtx (contextOf n) c).writeEntry (contextOf n) kind station element ack ready failed data =
      ((u.issue (.write k.entryAddr (c.entry u.engine.timeBase kind station element ack ready failed data))).setCad n
        { k with p := k.p + 1, state := .stopping, reason := .lagging }).setCtx (contextOf n)
        { c.wrote with cancel := some .stop } := by
  rw [writeEntry_of_cadence _ _ _ _ _ _ _ job, 
    pushEntry_lagging (u := u.setCtx (contextOf n) c.wrote) cad running crossed outstanding, post_entry]
  have flagged : c.wrote.cancel.or (some .stop) = some .stop := by simp [Context.wrote, going]
  have commute : ((u.setCtx (contextOf n) c.wrote).issue (.write k.entryAddr
      (c.entry u.engine.timeBase kind station element ack ready failed data))) =
      (u.issue (.write k.entryAddr (c.entry u.engine.timeBase kind station element ack ready failed data))).setCtx
        (contextOf n) c.wrote := rfl
  simp only [State.flagCancel, commute, setCtx_setCad, State.ctx_setCtx_same, flagged, setCtx_setCtx_same]

end

/-- A step error halts a cadence's run: its FAULT entry is written, the failed run counted, and the cadence WAITING
(R34, R96). -/
theorem halt_cadence (err : StepError) (job : c.job = .cadence) (cad : u.cad n = k) (running : k.state = .running)
    (clear : k.p + 1 ≠ k.nextBoundary ∨ k.outstanding = false) : ∃ c' : Context, c'.state = .idle ∧
    (u.setCtx (contextOf n) c).halt (contextOf n) err =
      ((u.issue (.write k.entryAddr (c.entry u.engine.timeBase .fault c.elem.station c.element false false true
        (BitVec.ofNat 32 err.code)))).setCad n
        { k.advanced with state := .waiting, runsFailed := satInc k.runsFailed }).setCtx (contextOf n) c' := by
  refine ⟨(c.failed err).wrote.rested, rfl, ?_⟩
  have failedRuns : k.advanced.runsFailed = k.runsFailed := by unfold Cadence.advanced; split <;> rfl
  have written := writeEntry_cadence (c := c.failed err) .fault c.elem.station c.element false false true
    (BitVec.ofNat 32 err.code) job cad clear
  rw [halt_of_cadence err job, written]
  simp only [State.countFailedRun, cadenceOf_contextOf, State.cad_setCtx, State.cad_setCad_same, setCtx_setCad,
    setCad_setCad_same, failedRuns]
  exact (endCadenceRun_running (State.cad_setCad_same ..) (by simpa using running)).trans
    (by rw [setCad_setCad_same]; rfl)

end Sys2Proof.Machine
end

section
/-! The end of an event in which one context has changed (R24, R50): from a calm state, and behind a frame that has arrived in
OPEN. -/

namespace Sys2Proof.Machine

open Sys2Proof

variable {s u : State} {i : CtxId} {c : Context}

/-- What a calm state says: no context to release, no DRAINING to end, no frame due, no context to grant, nothing pending that
could start. -/
theorem calm_iff (s : State) : s.calm = true ↔
    (s.canGrant = true → s.pick = none) ∧ ¬ (s.loop.state = .draining ∧ s.loop.window = []) ∧
      ¬ (s.loop.sendDue = true ∧ s.loop.transmitting = none) ∧ s.released = [] ∧
      (s.intake.pendingList = [] ∨ ((s.ctx ctxA).state ≠ .idle ∧ (s.ctx ctxB).state ≠ .idle)) := by
  simp only [State.calm, State.loopWaits, Bool.and_eq_true, Bool.not_eq_true', Bool.or_eq_true, List.isEmpty_iff,
    Bool.and_eq_false_iff, bne_iff_ne, ne_eq, Option.isNone_eq_false_iff, Option.isSome_eq_false_iff,
    Option.isNone_iff_eq_none, and_assoc, not_and_or, beq_eq_false_iff_ne, List.isEmpty_eq_false_iff, Option.isSome_iff_ne_none,
    Bool.not_eq_true, Decidable.imp_iff_not_or]

/-- Nothing pending, where context A is IDLE in a calm state. -/
theorem pendingList_of_calm (calm : s.calm = true) (idle : (s.ctx ctxA).state = .idle) : s.intake.pendingList = [] :=
  ((calm_iff s).1 calm).2.2.2.2.resolve_right fun busy => busy.1 idle

theorem ctx_of_contexts (contexts : u.contexts = s.contexts.set i c) (j : CtxId) :
    u.ctx j = if j = i then c else s.ctx j := by
  split
  · rename_i same; subst same; simp [State.ctx, contexts]
  · rename_i other
    simp only [State.ctx, contexts]
    exact Vector.getElem_set_ne _ _ fun e => other (Fin.ext e.symm)

/-- A context that is not in CHECKING, or waits there as it did, leaves nothing to release (R10, R75). -/
theorem released_of_context (released : s.released = []) (contexts : u.contexts = s.contexts.set i c)
    (op : u.loop.op = s.loop.op) (load : u.store.load = s.store.load)
    (settled : c.state ≠ .checking ∨ c.state = (s.ctx i).state ∧ c.job = (s.ctx i).job) : u.released = [] := by
  simp only [State.released, List.filter_eq_nil_iff] at released ⊢
  intro j request
  rw [load, op, ctx_of_contexts contexts]
  split
  · rename_i same
    subst same
    rcases settled with busy | ⟨state, job⟩
    · simp [busy]
    · rw [state, job]; exact released j request
  · exact released j request

/-- A calm state stays calm when one context changes that is then not to be granted, and that is not a request context
newly IDLE while a request is pending. -/
theorem calm_of_context (calm : s.calm = true) (contexts : u.contexts = s.contexts.set i c) (loop : u.loop = s.loop)
    (load : u.store.load = s.store.load)
    (settled : c.state ≠ .checking ∨ c.state = (s.ctx i).state ∧ c.job = (s.ctx i).job)
    (pending : u.intake.pendingList = [] ∨
      u.intake.pendingList = s.intake.pendingList ∧ (c.state = .idle → (s.ctx i).state = .idle ∨ i.val < 8))
    (silent : c.eligible = false) : u.calm = true := by
  obtain ⟨grant, drain, due, released, idle⟩ := (calm_iff s).1 calm
  have can : u.canGrant = s.canGrant := by unfold State.canGrant; rw [loop]
  refine (calm_iff u).2 ⟨fun g => pick_none u fun j => ?_, by rwa [loop], by rwa [loop],
    released_of_context released contexts (by rw [loop]) load settled, ?_⟩
  · rw [ctx_of_contexts contexts]
    split
    · exact silent
    · exact eligible_false_of_pick s (grant (by rwa [can] at g)) j
  · rcases pending with none | ⟨same, back⟩
    · exact .inl none
    · refine idle.imp (same.trans ·) fun ⟨a, b⟩ => ?_
      have stays : ∀ j : CtxId, 8 ≤ j.val → (s.ctx j).state ≠ .idle → (u.ctx j).state ≠ .idle := by
        intro j request busy
        rw [ctx_of_contexts contexts]
        split
        · rename_i e; subst e
          exact fun idle => (back idle).elim busy fun cadence => absurd cadence (by omega)
        · exact busy
      exact ⟨stays ctxA (by decide) a, stays ctxB (by decide) b⟩

/-- The end of an event that leaves a context as `calm_of_context` has it, but for a grant that can be made to it: it is
granted at once or waits (R24, R50). -/
theorem Wakes.settle_context (before : State) (calm : s.calm = true) (contexts : u.contexts = s.contexts.set i c)
    (loop : u.loop = s.loop) (load : u.store.load = s.store.load)
    (settled : c.state ≠ .checking ∨ c.state = (s.ctx i).state ∧ c.job = (s.ctx i).job)
    (pending : u.intake.pendingList = [] ∨
      u.intake.pendingList = s.intake.pendingList ∧ (c.state = .idle → (s.ctx i).state = .idle ∨ i.val < 8))
    (present : s.canGrant = true → c.eligible = true → (u.station c.elem.station.toNat).state ≠ .bypassed) :
    Wakes (u.offered i) (u.settle before) := by
  by_cases idle : c.state = .idle
  · have silent : c.eligible = false := by simp [Context.eligible, idle]
    rw [offered_not_eligible u i (by rwa [ctx_of_contexts contexts, if_pos rfl])]
    exact .settle u before (calm_of_context calm contexts loop load settled pending silent)
  · exact .settle_changed before i c calm contexts loop load settled (pending.imp_right fun same => ⟨same.1, idle⟩) present

/-- Behind a frame heard in OPEN by the only context that can then be eligible: it is granted at once or waits, and only
Intake and the Queue Unit go on (R24, R50). -/
theorem Wakes.settle_opened (before : State) (opened : s.loop.state = .opened)
    (busy : s.loop.transmitting.isSome = true ∨ s.loop.sendDue = false ∧ ∀ j, (s.ctx j).eligible = false)
    (released : s.released = []) (pending : u.intake.pendingList = []) (contexts : u.contexts = s.contexts.set i c)
    (loop : ∃ window stats, u.loop = { s.loop with window, lineLoss := false, receiver := .between false, stats })
    (load : u.store.load = s.store.load) (settled : c.state ≠ .checking)
    (present : s.loop.transmitting = none → c.eligible = true → (u.station c.elem.station.toNat).state ≠ .bypassed) :
    Wakes (u.offered i) (u.settle before) := by
  obtain ⟨window, stats, loop⟩ := loop
  have mine : u.ctx i = c := by rw [ctx_of_contexts contexts, if_pos rfl]
  have free : u.canGrant = true → s.loop.transmitting = none := fun g => by
    simp only [State.canGrant, loop, Bool.and_eq_true, Option.isNone_iff_eq_none] at g; exact g.2
  have alone : s.loop.transmitting = none → s.loop.sendDue = false ∧ ∀ j, (s.ctx j).eligible = false := fun f =>
    busy.resolve_left (by simp [f])
  refine .settle_offered u before i ?_ ?_ (released_of_context released contexts (by rw [loop]) load (.inl settled))
    (.inl pending) (fun g j other => ?_) fun g e => ?_
  · rw [loop]; rintro ⟨draining, -⟩; rw [opened] at draining; cases draining
  · rw [loop]; rintro ⟨due, f⟩; rw [(alone f).1] at due; cases due
  · rw [ctx_of_contexts contexts, if_neg other]; exact (alone (free g)).2 j
  · rw [mine] at e ⊢; exact present (free g) e

/-- The same for a context that is then not to be granted. -/
theorem Wakes.settle_opened_silent (before : State) (opened : s.loop.state = .opened)
    (busy : s.loop.transmitting.isSome = true ∨ s.loop.sendDue = false ∧ ∀ j, (s.ctx j).eligible = false)
    (released : s.released = []) (pending : u.intake.pendingList = []) (contexts : u.contexts = s.contexts.set i c)
    (loop : ∃ window stats, u.loop = { s.loop with window, lineLoss := false, receiver := .between false, stats })
    (load : u.store.load = s.store.load) (settled : c.state ≠ .checking) (silent : c.eligible = false) :
    Wakes u (u.settle before) := by
  have offered := Wakes.settle_opened before opened busy released pending contexts loop load settled
    fun _ e => by rw [silent] at e; cases e
  rwa [offered_not_eligible] at offered
  rwa [ctx_of_contexts contexts, if_pos rfl]

/-- A context in another state than ISSUING is not eligible (R50). -/
theorem not_eligible (h : c.state ≠ .issuing) : c.eligible = false := by simp [Context.eligible, h]

end Sys2Proof.Machine
end

section
/-! EXCHANGE and SURVEY: their checks and their start in request context A (R19, R23, R40, R41, R44, R74, R75). -/

namespace Sys2Proof.Machine

open Sys2Proof

variable {s : State} {i : Fin 40} {b : Body} {y : Slot} {tag : BitVec 64}

/-- The slot of a request that has been dispatched to a request context. -/
theorem setSlotState_eq {st : SlotState} (slot : s.slot i = some y) :
    s.setSlotState i st = s.setSlot i (some { y with state := st }) := by
  simp [State.setSlotState, slot]

@[simp] theorem setSlot_setSlot_same (i : Fin 40) (x z : Option Slot) : (s.setSlot i x).setSlot i z = s.setSlot i z := by
  simp [State.setSlot]

/-- With context A IDLE, and outside QUIESCING, a request of a context kind starts there (R19, R146). -/
theorem routeOrQuiesce_starts (working : s.engine.state ≠ .quiescing) (idle : (s.ctx ctxA).state = .idle) :
    s.routeOrQuiesce i = s.startRequest ctxA i := by
  have quiet : s.quiescing = false := by simpa [State.quiescing] using working
  simp [State.routeOrQuiesce, quiet, State.routeContext, idle]

/-! ### EXCHANGE -/

/-- The record of a request context that starts an EXCHANGE (R19, R40). -/
def Context.boundExchange (slot : Fin 40) (e : Exchange) : Context :=
  { Context.zero with state := .issuing, job := .exchange, owner := slot, elem := e, remaining := 1 }

/-- An EXCHANGE is refused with its step's station as written (R40). -/
theorem doExchange_refused {r : Result} (refusal : exchangeRefusal b = some r) :
    s.doExchange i b = s.finish i { result := r.code, station := (u8 b 0x01).toNat } := by
  simp [State.doExchange, refusal]

theorem exchangeRefusal_badStep (step : exchangeStepOk b = false) (rest : zeroAt b 0x10 80 = true) :
    exchangeRefusal b = some .badStep := by simp [exchangeRefusal, step, rest]

theorem exchangeRefusal_badField (step : exchangeStepOk b = true) (rest : zeroAt b 0x10 80 = false) :
    exchangeRefusal b = some .badField := by simp [exchangeRefusal, step, rest]

/-- With both defects either result is the part's (log entry 6). -/
theorem exchangeRefusal_both (step : exchangeStepOk b = false) (rest : zeroAt b 0x10 80 = false) :
    exchangeRefusal b = some .badStep ∨ exchangeRefusal b = some .badField := by
  unfold exchangeRefusal
  cases Config.exchangeStepFirst <;> simp [step, rest]

theorem exchangeRefusal_none {e : Exchange} (step : Step.ofImage (b.extractLsb' 0 128) = some (.exchange e))
    (inline : e.access.isInput = false) (rest : zeroAt b 0x10 80 = true) : exchangeRefusal b = none := by
  simp [exchangeRefusal, exchangeStepOk, step, inline, rest]

section
variable {e : Exchange} (step : Step.ofImage (b.extractLsb' 0 128) = some (.exchange e)) (inline : e.access.isInput = false)
  (rest : zeroAt b 0x10 80 = true) (working : s.engine.state ≠ .quiescing) (idle : (s.ctx ctxA).state = .idle)
  (slot : s.slot i = some y) (record : y.record = some { kind := 3, tag, body := b })
include step inline rest working idle slot record

/-- An EXCHANGE that passes its checks starts in context A when A is IDLE. -/
theorem doExchange_starts : s.doExchange i b =
    ((s.setSlot i (some { y with state := .running })).setCtx ctxA (Context.boundExchange i e)).beginElement ctxA := by
  have kept : s.recordOf i = some { kind := 3, tag, body := b } := by simp [State.recordOf, slot, record]
  have body : s.bodyOf i = b := by simp [State.bodyOf, kept]
  simp only [State.doExchange, exchangeRefusal_none step inline rest, routeOrQuiesce_starts working idle]
  simp [State.startRequest, kept, body, step, setSlotState_eq slot, Context.boundExchange]

/-- Its element waits for its grant (R23). -/
theorem doExchange_waits (up : s.loop.state ≠ .down) : s.doExchange i b =
    (s.setSlot i (some { y with state := .running })).setCtx ctxA
      ((Context.boundExchange i e).begun s.engine.config.retryLimit) :=
  (doExchange_starts step inline rest working idle slot record).trans (beginElement_inline up inline)

/-- With the loop DOWN it completes STEP FAILED at once (R23, R41, R44). -/
theorem doExchange_fails (down : s.loop.state = .down) : ∃ c : Context, c.state = .idle ∧ s.doExchange i b =
    (s.finished i y { result := 14, stepError := 7, station := e.station.toNat } 0x10 (zeros 8 ++ le 1 4)).setCtx ctxA
      c := by
  have fails := beginElement_down (u := s.setSlot i (some { y with state := .running })) (i := ctxA)
    (c := Context.boundExchange i e) down
  obtain ⟨c, ended, halted⟩ := halt_exchange (u := s.setSlot i (some { y with state := .running })) (i := ctxA)
    (c := (Context.boundExchange i e).begun s.engine.config.retryLimit) .loopDown rfl rfl (State.slot_setSlot_same ..)
  have bytes : ((Context.boundExchange i e).begun s.engine.config.retryLimit).exchangeBytes true = zeros 8 ++ le 1 4 := by
    simp [Context.exchangeBytes, Context.begun, Context.boundExchange, Context.zero, le32, le, zeros, bit,
      List.replicate_succ]
  rw [bytes] at halted
  refine ⟨c, ended, ?_⟩
  rw [← State.finished_setSlot s i (some { y with state := .running })]
  exact (doExchange_starts step inline rest working idle slot record).trans (fails.trans halted)

end

/-! ### SURVEY -/

/-- The record of a request context that starts a SURVEY (R19, R74). -/
def Context.boundSurvey (slot : Fin 40) : Context :=
  { Context.zero with state := .checking, job := .survey, owner := slot }

section
variable (fields : surveyFieldsOk b = true)
include fields

theorem doSurvey_badAddress (window : s.inWindow true (u64 b 0x00) (u32 b 0x08).toNat = false) :
    s.doSurvey i b = s.finish i { result := 3 } := by
  simp [State.doSurvey, fields, window, State.refuse, Result.code]

variable (window : s.inWindow true (u64 b 0x00) (u32 b 0x08).toNat = true)
include window

theorem doSurvey_shortBuffer (short : (u32 b 0x08).toNat < 320) : s.doSurvey i b = s.finish i { result := 4 } := by
  simp [State.doSurvey, fields, window, short, State.refuse, Result.code]

/-- A SURVEY that passes its checks starts in context A when A is IDLE: its walk begins unless a loop operation is in
progress (R10, R75). -/
theorem doSurvey_starts (long : 320 ≤ (u32 b 0x08).toNat) (working : s.engine.state ≠ .quiescing)
    (idle : (s.ctx ctxA).state = .idle) (slot : s.slot i = some y)
    (record : y.record = some { kind := 7, tag, body := b }) :
    s.doSurvey i b =
      let bound := (s.setSlot i (some { y with state := .running })).setCtx ctxA (Context.boundSurvey i)
      if s.loop.op.isSome then bound else bound.surveyStart ctxA := by
  have kept : s.recordOf i = some { kind := 7, tag, body := b } := by simp [State.recordOf, slot, record]
  simp only [State.doSurvey, fields, window, Bool.not_true, Bool.false_eq_true, if_false, if_neg (Nat.not_lt.2 long),
    routeOrQuiesce_starts working idle]
  simp [State.startRequest, kept, setSlotState_eq slot, Context.boundSurvey]

end

/-- A walk begins with the probe of address 1, unless that is BYPASSED (R75). -/
theorem surveyStart_probes {u : State} {j : CtxId} {c : Context} (present : (u.station 1).state ≠ .bypassed)
    (up : u.loop.state ≠ .down) :
    (u.setCtx j c).surveyStart j = u.setCtx j
      (Context.begun { c with element := 1, elem := identExchange 1, remaining := 1 } u.engine.config.retryLimit) := by
  have probes : (u.setCtx j c).surveyStart j =
      (u.setCtx j { c with element := 1, elem := identExchange 1, remaining := 1 }).beginElement j := by
    simp [State.surveyStart, surveyWalk, present]
  rw [probes, beginElement_inline up rfl]

/-- A SURVEY that waits for a loop operation leaves a calm state calm (R75). -/
theorem calm_of_waiting_survey {u : State} (calm : s.calm = true) (idle : (s.ctx ctxA).state = .idle)
    (op : s.loop.op.isSome = true) (contexts : u.contexts = s.contexts.set ctxA (Context.boundSurvey i))
    (loop : u.loop = s.loop) (load : u.store.load = s.store.load)
    (pending : u.intake.pendingList = s.intake.pendingList) : u.calm = true := by
  obtain ⟨grant, drain, due, released, -⟩ := (calm_iff s).1 calm
  have can : u.canGrant = s.canGrant := by unfold State.canGrant; rw [loop]
  refine (calm_iff u).2 ⟨fun g => pick_none u fun k => ?_, by rwa [loop], by rwa [loop], ?_,
    .inl (pending.trans (pendingList_of_calm calm idle))⟩
  · rw [ctx_of_contexts contexts]
    split
    · rfl
    · exact eligible_false_of_pick s (grant (by rwa [can] at g)) k
  · simp only [State.released, List.filter_eq_nil_iff] at released ⊢
    intro k request
    have waits : s.loop.op.isNone = false := by simpa using op
    rw [load, loop, ctx_of_contexts contexts]
    split
    · simp [Context.boundSurvey, waits]
    · exact released k request

end Sys2Proof.Machine

section
open Sys2Proof Sys2Proof.Machine

/-- Settles O37: the refusals by the defect of the body, and the start by the loop's state. -/
theorem exchangeStartsInContextA : Obligations.ExchangeStartsInContextA := by
  intro s acc tag b i x live taken slot calm y refused
  have record : y.record = some { kind := 3, tag, body := b } := rfl
  have refuses : ∀ r : Result, exchangeRefusal b = some r →
      ∃ t, exec (.exchange acc tag b) s = .next t ∧ Wakes (refused r.code) t := fun r refusal =>
    dispatch_finishes (fun _ => rfl) live taken slot (fun _ => calm) (doExchange_refused refusal)
  refine ⟨fun step rest => refuses _ (exchangeRefusal_badStep step rest),
    fun step rest => refuses _ (exchangeRefusal_badField step rest), fun step rest => ?_,
    fun e step inline rest working idle => ?_⟩
  · rcases exchangeRefusal_both step rest with badStep | badField
    · obtain ⟨t, run, wakes⟩ := refuses _ badStep; exact ⟨t, run, .inl wakes⟩
    · obtain ⟨t, run, wakes⟩ := refuses _ badField; exact ⟨t, run, .inr wakes⟩
  · have none_pending := pendingList_of_calm calm idle
    have kept := State.slot_setSlot_same s i (some y)
    refine ⟨fun up present => ⟨_, _, dispatch_eq (kind := 3) (fun _ => rfl) live taken slot
      (doExchange_waits (s := s.setSlot i (some y)) step inline rest working idle kept record up), ?_, rfl⟩, fun down => ?_⟩
    · rw [setSlot_setSlot_same]
      exact .settle_changed s ctxA _ calm rfl rfl rfl (.inl (by simp)) (.inl none_pending)
        fun grant _ => present grant
    · obtain ⟨c, ended, fails⟩ :=
        doExchange_fails (s := s.setSlot i (some y)) step inline rest working idle kept record down
      refine ⟨_, c, dispatch_eq (kind := 3) (fun _ => rfl) live taken slot fails, ended, ?_⟩
      rw [State.finished_setSlot]
      exact .settle_idle s ctxA c calm rfl rfl rfl (.inl (by rw [ended]; decide)) (.inl none_pending)
        (not_eligible (by rw [ended]; decide))

/-- Settles O38: the checks of a SURVEY in their order, and its start by the loop operation in progress. -/
theorem surveyStartsInContextA : Obligations.SurveyStartsInContextA := by
  intro s acc tag b i x live taken slot calm fields y inside
  have record : y.record = some { kind := 7, tag, body := b } := rfl
  refine ⟨fun window => dispatch_finishes (fun _ => rfl) live taken slot (fun _ => calm) (doSurvey_badAddress fields window),
    fun window short => dispatch_finishes (fun _ => rfl) live taken slot (fun _ => calm)
      (doSurvey_shortBuffer fields window short), fun window long working idle => ?_⟩
  have none_pending := pendingList_of_calm calm idle
  have starts := doSurvey_starts (s := s.setSlot i (some y)) fields window long working idle (State.slot_setSlot_same ..)
    record
  rw [setSlot_setSlot_same] at starts
  refine ⟨fun op => ?_, fun op up present => ?_⟩
  · obtain ⟨t, run, wakes⟩ := dispatch_wakes (c := .survey acc tag b) (fun _ => rfl) live taken slot
      (starts.trans (if_pos op)) fun _ => calm_of_waiting_survey calm idle op rfl rfl rfl rfl
    exact ⟨t, _, run, wakes, rfl⟩
  · have walks := dispatch_eq (c := .survey acc tag b) (fun _ => rfl) live taken slot
      (starts.trans (if_neg (by rw [State.setSlot_loop, op]; decide)))
    refine ⟨_, _, walks, ?_, rfl⟩
    rw [if_pos (show reachesLoop 7 = true from rfl), surveyStart_probes (u := s.setSlot i (some { y with state := .running })) present up]
    exact .settle_changed s ctxA _ calm rfl rfl rfl (.inl (by simp)) (.inl none_pending)
      fun _ _ => present

end
end

section
/-! CANCEL: what it finds of its tag on the pending list and in the request contexts (R42, R150). -/

namespace Sys2Proof.Machine

open Sys2Proof

variable {s u : State} {i k : Fin 40} {b : Body} {wanted : BitVec 64}

theorem tagged_of_slot (slot : u.slot k = s.slot k) : u.tagged wanted k = s.tagged wanted k := by
  simp [State.tagged, State.recordOf, slot]

/-- A slot's change is not seen by a context that is IDLE or owns another one. -/
theorem runsTagged_setSlot {j : CtxId} (x : Option Slot) (other : (s.ctx j).state = .idle ∨ (s.ctx j).owner ≠ i) :
    (s.setSlot i x).runsTagged wanted j = s.runsTagged wanted j := by
  unfold State.runsTagged
  rw [State.ctx_setSlot]
  rcases other with idle | owner
  · simp [idle]
  · rw [tagged_of_slot (State.slot_setSlot_other s i _ x (Ne.symm owner))]

/-- Finishing a frame keeps every request record (R138, R152). -/
theorem tagged_finished (z : Slot) (d : DoneRecord) (slot : s.slot k = some z) (j : Fin 40) :
    (s.finished k z d).tagged wanted j = s.tagged wanted j := by
  by_cases same : k = j
  · subst same; simp [State.tagged, State.recordOf, slot]
  · refine tagged_of_slot ?_
    have apart : k.val ≠ j.val := fun e => same (Fin.ext e)
    simp [State.finished, State.slot, apart]

/-- The state with nothing pending. -/
def State.emptied (s : State) : State := s.setIntake fun x => { x with pendingList := [] }

@[simp] theorem emptied_slot : s.emptied.slot k = s.slot k := rfl
@[simp] theorem emptied_runsTagged (j : CtxId) : s.emptied.runsTagged wanted j = s.runsTagged wanted j := rfl

theorem runsTagged_finished (z : Slot) (d : DoneRecord) (slot : s.slot k = some z) (j : CtxId) :
    (s.finished k z d).runsTagged wanted j = s.runsTagged wanted j := by
  simp [State.runsTagged, tagged_finished z d slot]

section
variable (fields : cancelFieldsOk b = true)
include fields

/-- A CANCEL that finds nothing of its tag (R150). -/
theorem doCancel_notFound (pending : ∀ k ∈ s.intake.pendingList, s.tagged (u64 b 0x00) k = false)
    (runsA : s.runsTagged (u64 b 0x00) ctxA = false) (runsB : s.runsTagged (u64 b 0x00) ctxB = false) :
    s.doCancel i b = s.finish i { result := 12 } := by
  have hits : s.intake.pendingList.filter (s.tagged (u64 b 0x00)) = [] :=
    List.filter_eq_nil_iff.2 fun k mem => by simp [pending k mem]
  have kept : s.intake.pendingList.filter (fun k => !s.tagged (u64 b 0x00) k) = s.intake.pendingList :=
    List.filter_eq_self.2 fun k mem => by simp [pending k mem]
  have same : s.setIntake (fun x => { x with pendingList := x.pendingList.filter fun k => !s.tagged (u64 b 0x00) k }) = s := by
    simp [State.setIntake, kept]
  simp [State.doCancel, fields, hits, same, State.cancelTagged, runsA, runsB, State.refuse, Result.code]

/-- A CANCEL that finds the one pending request: it completes CANCELLED, and the CANCEL behind it (R150). -/
theorem doCancel_pending {z : Slot} (pending : s.intake.pendingList = [k]) (slot : s.slot k = some z)
    (tagged : s.tagged (u64 b 0x00) k = true) (runsA : s.runsTagged (u64 b 0x00) ctxA = false)
    (runsB : s.runsTagged (u64 b 0x00) ctxB = false) :
    s.doCancel i b = (s.emptied.finished k z { result := 15 }).finish i { result := 0, countA := 1 } := by
  have hits : s.intake.pendingList.filter (s.tagged (u64 b 0x00)) = [k] := by simp [pending, tagged]
  have emptied : s.setIntake (fun x => { x with pendingList := x.pendingList.filter fun k => !s.tagged (u64 b 0x00) k }) =
      s.emptied := by simp [State.setIntake, State.emptied, pending, tagged]
  have cancelled : s.emptied.refuse k .cancelled = s.emptied.finished k z { result := 15 } := finish_eq _ _ _ _ _ _ slot
  have still : ∀ j, (s.emptied.finished k z { result := 15 }).runsTagged (u64 b 0x00) j = s.runsTagged (u64 b 0x00) j :=
    fun j => (runsTagged_finished (s := s.emptied) z _ slot j).trans (emptied_runsTagged j)
  unfold State.doCancel
  dsimp only
  rw [fields, hits, emptied, List.foldl_cons, List.foldl_nil, cancelled]
  generalize s.emptied.finished k z { result := 15 } = v at still
  simp [State.cancelTagged, still, runsA, runsB, Result.code]

/-- A CANCEL that finds a request at work in context A that awaits a reply flags it (R42, R150). -/
theorem doCancel_flags (pending : s.intake.pendingList = []) (runsA : s.runsTagged (u64 b 0x00) ctxA = true)
    (runsB : s.runsTagged (u64 b 0x00) ctxB = false) (awaiting : (s.ctx ctxA).state = .awaitingReply)
    (going : (s.ctx ctxA).cancel = none) :
    s.doCancel i b = (s.setCtx ctxA { s.ctx ctxA with cancel := some .cancel }).finish i { result := 0, countB := 1 } := by
  have same : s.setIntake (fun x => { x with pendingList := x.pendingList.filter fun k => !s.tagged (u64 b 0x00) k }) = s := by
    have kept : s.intake = { s.intake with pendingList := [] } := by rw [← pending]
    simp only [State.setIntake, pending, List.filter_nil, ← kept]
  have flagged : s.cancelTagged (u64 b 0x00) ctxA = s.setCtx ctxA { s.ctx ctxA with cancel := some .cancel } := by
    simp [State.cancelTagged, runsA, State.cancelCtx, awaiting, going, State.flagCancel]
  have other : (s.setCtx ctxA { s.ctx ctxA with cancel := some .cancel }).runsTagged (u64 b 0x00) ctxB = false := by
    rw [← runsB]
    unfold State.runsTagged
    rw [State.ctx_setCtx_other s ctxA ctxB _ (by decide)]
    rfl
  unfold State.doCancel
  dsimp only
  rw [fields, same]
  simp only [pending, List.filter_nil, List.foldl_nil]
  rw [flagged]
  simp [runsA, runsB, State.cancelTagged, other, Result.code]

end

/-- A calm state stays calm when nothing is pending any more. -/
theorem calm_of_emptied (calm : s.calm = true) (contexts : u.contexts = s.contexts) (loop : u.loop = s.loop)
    (load : u.store.load = s.store.load) (pending : u.intake.pendingList = []) : u.calm = true := by
  obtain ⟨grant, drain, due, released, -⟩ := (calm_iff s).1 calm
  have ctx : u.ctx = s.ctx := by funext j; simp [State.ctx, contexts]
  refine (calm_iff u).2 ⟨?_, by rwa [loop], by rwa [loop], ?_, .inl pending⟩
  · simpa only [State.canGrant, State.pick, State.pickCadence, State.pickRequest, ctx, loop] using grant
  · simpa only [State.released, ctx, loop, load] using released

end Sys2Proof.Machine

section
open Sys2Proof Sys2Proof.Machine

/-- Settles O46: the CANCEL's own slot hides nothing from it, since no context that is at work owns it and it is not pending. -/
theorem cancelFindsTag : Obligations.CancelFindsTag := by
  intro s acc tag b i x live taken slot calm fields ownA ownB unlisted wanted y
  have runs : ∀ j, (s.ctx j).state = .idle ∨ (s.ctx j).owner ≠ i →
      (s.setSlot i (some y)).runsTagged wanted j = s.runsTagged wanted j := fun j other => runsTagged_setSlot _ other
  have apart : ∀ k ∈ s.intake.pendingList, i ≠ k := fun k mem same => unlisted (by rwa [same])
  have tags : ∀ k ∈ s.intake.pendingList, (s.setSlot i (some y)).tagged wanted k = s.tagged wanted k := fun k mem =>
    tagged_of_slot (State.slot_setSlot_other _ _ _ _ (apart k mem))
  refine ⟨fun untagged runsA runsB => ?_, fun k z pending pendingSlot tagged runsA runsB => ?_,
    fun pending runsA runsB awaiting going => ?_⟩
  · refine dispatch_finishes (fun _ => rfl) live taken slot (fun _ => calm)
      (doCancel_notFound (s := s.setSlot i (some y)) fields ?_ ((runs ctxA ownA).trans runsA) ((runs ctxB ownB).trans runsB))
    exact fun k mem => (tags k mem).trans (untagged k mem)
  · have mem : k ∈ s.intake.pendingList := by simp [pending]
    have slots : i.val ≠ k.val := fun e => apart k mem (Fin.ext e)
    have effect := doCancel_pending (s := s.setSlot i (some y)) (i := i) fields pending
      ((State.slot_setSlot_other _ _ _ _ (apart k mem)).trans pendingSlot) ((tags k mem).trans tagged)
      ((runs ctxA ownA).trans runsA) ((runs ctxB ownB).trans runsB)
    rw [finish_eq _ i y _ _ _ (by simp [State.finished, State.slot, State.emptied, State.setIntake, State.setSlot, Ne.symm slots])] at effect
    obtain ⟨t, run, wakes⟩ := dispatch_wakes (c := .cancel acc tag b) (fun _ => rfl) live taken slot effect
      fun _ => calm_of_emptied calm rfl rfl rfl rfl
    refine ⟨t, _, run, wakes, ?_, rfl⟩
    have order : ∀ (v : Vector (Option Slot) 40) (x y z : Option Slot),
        (((v.set i x).set k y).set i z) = ((v.set k y).set i z) := fun v x y z => by
      rw [Vector.set_comm _ _ slots, Vector.set_set]
    simp [State.finished, State.emptied, State.setIntake, State.setSlot, State.resultWrites, State.frameAddr, order]
  · have effect := doCancel_flags (s := s.setSlot i (some y)) (i := i) fields pending ((runs ctxA ownA).trans runsA)
      ((runs ctxB ownB).trans runsB) awaiting going
    have written := effect.trans (finish_eq _ i y _ _ _ (State.slot_setSlot_same ..))
    refine ⟨_, dispatch_eq (c := .cancel acc tag b) (fun _ => rfl) live taken slot written, ?_⟩
    have flagged : ((s.setSlot i (some y)).setCtx ctxA { s.ctx ctxA with cancel := some .cancel }).finished i y
        { result := 0, countB := 1 } =
        (s.finished i y { result := 0, countB := 1 }).setCtx ctxA { s.ctx ctxA with cancel := some .cancel } := by
      rw [setCtx_finished, State.finished_setSlot]
    have busy : ({ s.ctx ctxA with cancel := some CancelCause.cancel } : Context).state = .awaitingReply := awaiting
    rw [State.ctx_setSlot, flagged]
    exact .settle_idle s ctxA _ calm rfl rfl rfl (.inl (by rw [busy]; decide)) (.inl pending)
      (not_eligible (by rw [busy]; decide))

end
end

section
/-! Input reads, pauses and await gaps: what their outcomes and expiries make of a context (R21, R22, R29). -/

namespace Sys2Proof.Machine

open Sys2Proof

variable {s : State} {i : CtxId}

/-- A live part takes the command, and what follows ends the event. -/
theorem event_eq (live : s.live = true) (f : State → State) : s.event f = (f s).settle s := if_pos live

section
variable {acc : Nat}

theorem inputArrives_eq (reading : s.reading acc = some i) (w : Word) :
    s.inputArrives acc w = s.setCtx i { s.ctx i with held := some w, inputRead := none } := by
  simp [State.inputArrives, reading]

/-- A failed input read halts, whatever the on-error of its step (R22, R32). -/
theorem inputFails_eq (reading : s.reading acc = some i) :
    s.inputFails acc = (s.setCtx i { s.ctx i with inputRead := none }).halt i .inputFault := by
  simp only [State.inputFails, reading]
  exact stepError_halts _ _ _ (.inl rfl)

end

/-- The record of a context whose pause has ended, at the step behind it. -/
def Context.unpaused (c : Context) : Context := { c with timer := none, step := c.step + 1 }

/-- The end of a pause begins the step behind it (R21). -/
theorem pauseEnds_eq (paused : (s.ctx i).state = .paused) (running : (s.ctx i).timer.isSome = true) :
    s.pauseEnds i = (s.setCtx i (s.ctx i).unpaused).beginStepAt i := by
  unfold State.pauseEnds
  rw [if_pos ⟨paused, running⟩, nextStep_eq]
  rfl

theorem pauseEnds_ignored (other : (s.ctx i).state ≠ .paused ∨ (s.ctx i).timer = none) : s.pauseEnds i = s := by
  refine if_neg fun ⟨paused, running⟩ => ?_
  rcases other with state | stopped
  · exact state paused
  · rw [stopped] at running; cases running

/-- The end of the await gap brings the context back to ISSUING (R29). -/
theorem gapEnds_eq (backingOff : (s.ctx i).state = .backingOff) (running : (s.ctx i).timer.isSome = true) :
    s.gapEnds i = s.setCtx i { s.ctx i with timer := none, state := .issuing } := if_pos ⟨backingOff, running⟩

theorem gapEnds_ignored (other : (s.ctx i).state ≠ .backingOff ∨ (s.ctx i).timer = none) : s.gapEnds i = s := by
  refine if_neg fun ⟨backingOff, running⟩ => ?_
  rcases other with state | stopped
  · exact state backingOff
  · rw [stopped] at running; cases running

end Sys2Proof.Machine

section
open Sys2Proof Sys2Proof.Machine

/-- Settles O47: the word is one change of its context, and the failed read is a halt. -/
theorem inputReadsFeedElements : Obligations.InputReadsFeedElements := by
  intro s acc w live calm
  have arrival : exec (.inputWordArrival acc w) s = .next ((s.inputArrives acc w).settle s) :=
    congrArg Host.Outcome.next (event_eq live _)
  have failure : exec (.inputReadFail acc) s = .next ((s.inputFails acc).settle s) :=
    congrArg Host.Outcome.next (event_eq live _)
  refine ⟨fun i reading present => ⟨_, arrival, ?_⟩, fun unread => ?_, fun i z reading job going slot none_pending => ?_⟩
  · rw [inputArrives_eq reading]
    exact .settle_context s calm rfl rfl rfl (.inr ⟨rfl, rfl⟩) (.inr ⟨rfl, fun idle => .inl idle⟩)
      fun grant _ => present grant
  · have word : s.inputArrives acc w = s := by simp [State.inputArrives, unread]
    have fail : s.inputFails acc = s := by simp [State.inputFails, unread]
    rw [word] at arrival
    rw [fail] at failure
    exact ⟨_, _, arrival, .settle s s calm, failure, .settle s s calm⟩
  · obtain ⟨c', idle, halted⟩ := halt_run (u := s) (i := i) (c := { s.ctx i with inputRead := none }) .inputFault job going slot
    refine ⟨_, c', failure, idle, ?_⟩
    rw [inputFails_eq reading, halted]
    exact .settle _ s (calm_of_context calm rfl rfl rfl (.inl (by rw [idle]; decide)) (.inl none_pending)
      (not_eligible (by rw [idle]; decide)))

/-- Settles O48: the end of a pause by the step behind it, and the end of the await gap. -/
theorem pausesAndGapsEnd : Obligations.PausesAndGapsEnd := by
  intro s i live calm c grantable element
  have pause : exec (.pauseExpiry i) s = .next ((s.pauseEnds i).settle s) := congrArg Host.Outcome.next (event_eq live _)
  have gap : exec (.awaitGapExpiry i) s = .next ((s.gapEnds i).settle s) := congrArg Host.Outcome.next (event_eq live _)
  have leaves : ∀ u c', s.pauseEnds i = u → u.contexts = s.contexts.set i c' → u.loop = s.loop → u.store.load = s.store.load →
      c'.state ≠ .checking → c'.eligible = false → (u.intake.pendingList = [] ∨
        u.intake.pendingList = s.intake.pendingList ∧ (c'.state = .idle → i.val < 8)) →
      ∃ t, exec (.pauseExpiry i) s = .next t ∧ Wakes u t := by
    intro u c' ends contexts loop load settled silent pending
    refine ⟨_, pause, ?_⟩
    rw [ends]
    exact .settle u s (calm_of_context calm contexts loop load (.inl settled)
      (pending.imp_right fun same => ⟨same.1, fun idle => .inr (same.2 idle)⟩) silent)
  refine ⟨fun paused running going => ?_, fun backingOff running present => ⟨_, gap, ?_⟩, fun other => ⟨_, pause, ?_⟩,
    fun other => ⟨_, gap, ?_⟩⟩
  · have ends := pauseEnds_eq paused running
    refine ⟨fun st e n step loops up => ?_, fun n step => ?_, fun label n job mark step => ?_,
      fun z step job whole slot none_pending => ?_, fun n step job number state => ?_⟩
    · have begins := ends.trans (beginStepAt_element (c := (s.ctx i).unpaused) going step loops)
      refine ⟨fun inline present => ⟨_, pause, ?_⟩, fun input => ?_⟩
      · rw [begins, beginElement_inline up inline]
        exact .settle_context s calm rfl rfl rfl (.inl (by simp)) (.inr ⟨rfl, by simp⟩) fun grant _ => present grant
      · exact leaves _ _ (begins.trans (beginElement_input up input)) rfl rfl rfl (by simp)
          (input_not_eligible input rfl) (.inr ⟨rfl, by simp⟩)
    · have pauses := ends.trans (beginStepAt_pause (c := (s.ctx i).unpaused) going step)
      have same : ({ (s.ctx i).unpaused with state := .paused, timer := some n.toNat } : Context) =
          { c with timer := some n.toNat, step := c.step + 1 } := by rw [← paused]; rfl
      rw [same] at pauses
      exact leaves _ _ pauses rfl rfl rfl (by simp [paused]) (not_eligible (by simp [paused])) (.inr ⟨rfl, by simp [paused]⟩)
    · have marks := ends.trans (beginStepAt_mark_pause (c := (s.ctx i).unpaused) going job mark step)
      have same : ({ (s.ctx i).unpaused.wrote with
          outCursor := c.outCursor + 16, step := c.step + 2, state := .paused, timer := some n.toNat } : Context) =
          { c with
            timer := some n.toNat, step := c.step + 2, shortPending := false, entries := c.entries + 1,
            outCursor := c.outCursor + 16 } := by rw [← paused]; rfl
      refine leaves _ _ (marks.trans (congrArg (State.setCtx _ i) same)) rfl rfl rfl (by simp [paused])
        (not_eligible (by simp [paused])) (.inr ⟨rfl, by simp [paused]⟩)
    · have done := (ends.trans (beginStepAt_end (c := (s.ctx i).unpaused) going step)).trans
        ((endRun_of_run (c := (s.ctx i).unpaused) job).trans (completeRun_eq .done going slot))
      obtain ⟨t, run, wakes⟩ := leaves _ _ done rfl rfl rfl (by simp) (not_eligible (by simp)) (.inl none_pending)
      have record : (s.ctx i).unpaused.runRecord 0 =
          { result := 0, countA := BitVec.ofNat 32 c.entries, countB := BitVec.ofNat 32 c.words } := by
        simp only [Context.runRecord, show (s.ctx i).unpaused.failing = none from whole]
        rfl
      refine ⟨t, (s.ctx i).unpaused.rested, run, rfl, ?_⟩
      rw [show Result.code .done = 0 from rfl, record] at wakes
      exact wakes
    · obtain rfl := eq_contextOf number
      have done := (ends.trans (beginStepAt_end (c := (s.ctx (contextOf n)).unpaused) going step)).trans
        ((endRun_of_cadence (c := (s.ctx (contextOf n)).unpaused) job).trans (endCadenceRun_running rfl state))
      obtain ⟨t, run, wakes⟩ := leaves _ _ done rfl rfl rfl (by simp) (not_eligible (by simp))
        (.inr ⟨rfl, fun _ => n.isLt⟩)
      exact ⟨t, (s.ctx (contextOf n)).unpaused.rested, run, rfl, wakes⟩
  · rw [gapEnds_eq backingOff running]
    exact .settle_context s calm rfl rfl rfl (.inl (by simp)) (.inr ⟨rfl, by simp⟩) fun grant _ => present grant
  · rw [pauseEnds_ignored other]; exact .settle s s calm
  · rw [gapEnds_ignored other]; exact .settle s s calm

end
end

section
/-! The end of a transmission, and the grant that it makes possible (R24, R47, R50 to R52, R62). -/

namespace Sys2Proof.Machine

open Sys2Proof

variable {s : State} {i : CtxId}

/-- The window at the end of a transmission: the frame sent takes its send time and its deadline (R48). -/
def LoopPort.timed (l : LoopPort) (now : Word) (timeout : Nat) : List InFlight :=
  l.window.map fun r : InFlight =>
    if r.sendTime.isNone then { r with sendTime := some now, deadline := some (now + BitVec.ofNat 32 timeout) } else r

/-- The end of a transmission behind which no SYNC frame is due (R47, R48, R62). -/
theorem transmitEnd_eq (sending : s.loop.transmitting.isSome = true) (due : s.loop.sendDue = false) :
    s.transmitEnd = { s with loop := { s.loop with
      transmitting := none, window := s.loop.timed s.engine.timeBase s.engine.config.replyTimeout,
      syncTimer := if s.loop.state = .syncing ∧ s.loop.syncWaits = true then some s.engine.config.replyTimeout
        else s.loop.syncTimer } } := by
  simp [State.transmitEnd, sending, due, State.setLoop, LoopPort.timed]

theorem transmitEnd_idle (silent : s.loop.transmitting = none) : s.transmitEnd = s := by
  simp [State.transmitEnd, silent]

/-- A grant leaves nothing more to do: the transmitter is busy. -/
theorem sent_calm (released : s.released = []) (pending : s.intake.pendingList = []) (opened : s.loop.state = .opened) :
    (s.sent i).calm = true := by
  refine (calm_iff _).2 ⟨fun can => ?_, fun ⟨draining, _⟩ => ?_, fun ⟨_, silent⟩ => ?_,
    released_of_context released rfl rfl rfl (.inl (by simp)), .inl pending⟩
  · simp [State.canGrant, State.sent] at can
  · have state : (s.sent i).loop.state = .opened := opened
    rw [state] at draining; cases draining
  · cases silent

/-- At the end of an event in OPEN with nothing else to do, the context that the arbiter picks is granted (R24, R50). -/
theorem Wakes.settle_granted (before : State) (active : s.active = true) (released : s.released = [])
    (pending : s.intake.pendingList = []) (opened : s.loop.state = .opened) (due : s.loop.sendDue = false)
    (can : s.canGrant = true) (pick : s.pick = some i)
    (present : (s.station (s.ctx i).elem.station.toNat).state ≠ .bypassed) : Wakes (s.sent i) (s.settle before) := by
  have grants : s.turn = some (s.sent i) := by
    unfold State.turn State.startPending
    simp [released, pending, opened, due, grant_sent s i can pick present]
  rw [settle_one s before _ active grants (turn_none_of_calm _ (sent_calm released pending opened)) rfl]
  exact .settleIntake _ _

end Sys2Proof.Machine

section
open Sys2Proof Sys2Proof.Machine

/-- Settles O50: the frame sent is timed, and the end of the event then finds nothing to do or the arbiter's pick to grant. -/
theorem transmitEndGrantsNext : Obligations.TransmitEndGrantsNext := by
  intro s live released none_pending due now sent
  have run : exec .frameTransmitEnd s = .next (s.transmitEnd.settle s) := congrArg Host.Outcome.next (event_eq live _)
  refine ⟨fun f sending draining waits => ⟨_, run, ?_⟩, fun f i active sending opened place pick present => ?_,
    fun silent calm => ⟨_, run, ?_⟩⟩
  · rw [transmitEnd_eq (by simp [sending]) due]
    refine .settle _ s ((calm_iff _).2 ⟨fun can => ?_, ?_, by simp [due], released, .inl none_pending⟩)
    · simp only [State.canGrant, Bool.and_eq_true, beq_iff_eq, decide_eq_true_eq] at can
      rcases waits with state | idle | full
      · exact absurd can.1.1 state
      · exact idle
      · exact absurd can.1.2 (by simpa [sent] using full)
    · simpa [sent] using draining
  · rw [transmitEnd_eq (by simp [sending]) due] at run
    refine ⟨_, _, _, run, .settle_granted (i := i) s (by simp [State.active, active]) released none_pending opened due ?_ pick
      present, rfl, ?_⟩
    · simp [State.canGrant, LoopPort.timed, opened, place]
    · simp [State.ctx, State.pickRequest, LoopPort.timed, opened, sent, now]
  · rw [transmitEnd_idle silent]; exact .settle s s calm

end
end

section
/-! Triggers: the start of a run, and misses (R20, R92 to R95, R103, R105). -/

namespace Sys2Proof.Machine

open Sys2Proof

variable {s : State} {n : Fin 8} {k : Cadence}

/-- The record of a cadence whose trigger timer has expired: it is set for the next period (R92). -/
def Cadence.rearmed (k : Cadence) : Cadence := { k with trigger := some (k.period.toNat * Config.cadenceUnit) }

theorem cadenceExpires_eq (running : (s.cad n).trigger.isSome = true) :
    s.cadenceExpires n = (s.setCad n (s.cad n).rearmed).trigger n := if_pos running

theorem cadenceExpires_ignored (stopped : (s.cad n).trigger = none) : s.cadenceExpires n = s :=
  if_neg (by simp [stopped])

/-- The record of a cadence context that starts on its program (R20, R93). -/
def Context.boundCadence (n : Fin 8) (k : Cadence) : Context :=
  { Context.zero with
    state := .issuing, job := .cadence, owner := Fin.ofNat 40 n.val, runSequence := k.runSequence,
    step := k.programStart.toNat }

/-- The record of a cadence that begins a run (R93). -/
def Cadence.started (k : Cadence) : Cadence :=
  { k with state := .running, runSequence := k.runSequence + 1, runsStarted := satInc k.runsStarted, consecutive := 0 }

/-- A WAITING cadence with room for a run starts one; here its first step is an EXCHANGE without an input word (R93). -/
theorem trigger_starts {e : Exchange} (waiting : k.state = .waiting) (room : k.lmax.toNat ≤ k.free)
    (first : fetchStep s.store.steps k.programStart.toNat = some (.exchange e)) (inline : e.access.isInput = false)
    (up : s.loop.state ≠ .down) :
    (s.setCad n k).trigger n = (s.setCad n k.started).setCtx (contextOf n)
      (Context.begun { Context.boundCadence n k.started with elem := e, remaining := 1, element := 0 }
        s.engine.config.retryLimit) := by
  have starts : (s.setCad n k).trigger n =
      ((s.setCad n k.started).setCtx (contextOf n) (Context.boundCadence n k.started)).beginStepAt (contextOf n) := by
    have owner : (⟨n.val, by omega⟩ : Fin 40) = Fin.ofNat 40 n.val := Fin.ext (Nat.mod_eq_of_lt (by omega)).symm
    have begins : (s.setCad n k).trigger n = (s.setCad n k.started).startCadenceRun n := by
      simp [State.trigger, waiting, room, Cadence.started]
    rw [begins]
    simp only [State.startCadenceRun, State.cad_setCad_same, owner]
    rfl
  rw [starts, beginStepAt_element (u := s.setCad n k.started) (c := Context.boundCadence n k.started) rfl first (.inl ⟨rfl, rfl⟩),
    beginElement_inline (u := s.setCad n k.started) up inline]
  rfl

/-- A STOPPING cadence ignores its trigger (R93). -/
theorem trigger_stopping (stopping : k.state = .stopping) : (s.setCad n k).trigger n = s.setCad n k := by
  simp [State.trigger, stopping]

theorem trigger_space (waiting : k.state = .waiting) (full : k.free < k.lmax.toNat) :
    (s.setCad n k).trigger n = (s.setCad n k).miss n false := by
  simp [State.trigger, waiting, Nat.not_le.2 full]

theorem trigger_overlap (running : k.state = .running) : (s.setCad n k).trigger n = (s.setCad n k).miss n true := by
  simp [State.trigger, running]

/-- The record of a cadence with a miss counted (R94). -/
def Cadence.missed (k : Cadence) (overlap : Bool) : Cadence :=
  if overlap then { k with consecutive := satInc k.consecutive, overlapMisses := satInc k.overlapMisses }
  else { k with consecutive := satInc k.consecutive, spaceMisses := satInc k.spaceMisses }

theorem miss_counts (overlap : Bool) (under : k.missLimit = 0 ∨ satInc k.consecutive ≠ k.missLimit.setWidth 32) :
    (s.setCad n k).miss n overlap = s.setCad n (k.missed overlap) := by
  have stays : ¬ (k.missLimit ≠ 0 ∧ satInc k.consecutive = k.missLimit.setWidth 32) := fun ⟨limit, reached⟩ =>
    under.elim limit fun other => other reached
  unfold State.miss
  simp only [State.cad_setCad_same, if_neg stays, setCad_setCad_same]
  rfl

theorem miss_stops (overlap : Bool) (limit : k.missLimit ≠ 0)
    (reached : satInc k.consecutive = k.missLimit.setWidth 32) :
    (s.setCad n k).miss n overlap = (s.setCad n (k.missed overlap)).cadenceStop n .missed := by
  unfold State.miss
  simp only [State.cad_setCad_same, if_pos (And.intro limit reached), setCad_setCad_same]
  rfl

/-- A WAITING cadence that stops is IDLE at once (R103, R105). -/
theorem cadenceStop_waiting (r : StopReason) (waiting : k.state = .waiting) :
    (s.setCad n k).cadenceStop n r = (s.setCad n { k with reason := r }).cadenceIdle n := by
  simp [State.cadenceStop, waiting]

/-- A RUNNING cadence that stops while its context awaits a reply has the context flagged (R42, R103). -/
theorem cadenceStop_awaiting (r : StopReason) (running : k.state = .running)
    (awaiting : (s.ctx (contextOf n)).state = .awaitingReply) (going : (s.ctx (contextOf n)).cancel = none) :
    (s.setCad n k).cadenceStop n r = (s.setCad n { k with state := .stopping, reason := r }).setCtx (contextOf n)
      { s.ctx (contextOf n) with cancel := some .stop } := by
  simp [State.cadenceStop, running, State.cancelCtx, awaiting, going, State.flagCancel]

/-- What of a calm state a change of cadences, holds and custody leaves. -/
theorem calm_of_rest {u : State} (calm : s.calm = true) (contexts : u.contexts = s.contexts) (loop : u.loop = s.loop)
    (load : u.store.load = s.store.load) (pending : u.intake.pendingList = s.intake.pendingList) : u.calm = true := by
  rw [← calm]
  have ctx : u.ctx = s.ctx := by funext j; simp [State.ctx, contexts]
  simp only [State.calm, State.loopWaits, State.canGrant, State.pick, State.pickCadence, State.pickRequest, State.released,
    ctx, loop, load, pending]

end Sys2Proof.Machine

section
open Sys2Proof Sys2Proof.Machine

/-- Settles O59: the trigger by the cadence's state and its room, and a miss by the limit. -/
theorem triggerStartsRunOrCountsMiss : Obligations.TriggerStartsRunOrCountsMiss := by
  intro s n live calm c next room
  have run : exec (.cadenceTrigger n) s = .next ((s.cadenceExpires n).settle s) :=
    congrArg Host.Outcome.next (event_eq live _)
  have leaves : ∀ {u : State}, s.cadenceExpires n = u → u.contexts = s.contexts → u.loop = s.loop →
      u.store.load = s.store.load → u.intake.pendingList = s.intake.pendingList →
      ∃ t, exec (.cadenceTrigger n) s = .next t ∧ Wakes u t := by
    intro u effect contexts loop load pending
    refine ⟨_, run, ?_⟩
    rw [effect]
    exact .settle u s (calm_of_rest calm contexts loop load pending)
  refine ⟨fun armed => ?_, fun stopped => leaves (cadenceExpires_ignored stopped) rfl rfl rfl rfl⟩
  have expires := cadenceExpires_eq armed
  refine ⟨fun e waiting fits first inline up present => ?_, fun under => ⟨fun waiting full => ?_, fun running => ?_⟩,
    fun limit reached => ⟨fun z waiting full slot => ?_, fun running awaiting going => ?_⟩, fun stopping => ?_⟩
  · refine ⟨_, _, run, ?_, rfl⟩
    rw [expires, trigger_starts (k := (s.cad n).rearmed) waiting fits first inline up]
    exact .settle_context s calm rfl rfl rfl (.inl (by simp)) (.inr ⟨rfl, by simp⟩) fun grant _ => present grant
  · exact leaves (expires.trans ((trigger_space (k := (s.cad n).rearmed) waiting full).trans
      (miss_counts (k := (s.cad n).rearmed) false under))) rfl rfl rfl rfl
  · exact leaves (expires.trans ((trigger_overlap (k := (s.cad n).rearmed) running).trans
      (miss_counts (k := (s.cad n).rearmed) true under))) rfl rfl rfl rfl
  · have stops := (miss_stops (s := s) (n := n) (k := (s.cad n).rearmed) false limit reached).trans
      ((cadenceStop_waiting (k := (s.cad n).rearmed.missed false) .missed waiting).trans (cadenceIdle_eq slot))
    exact leaves (expires.trans ((trigger_space (k := (s.cad n).rearmed) waiting full).trans stops)) rfl rfl rfl rfl
  · have stops := (miss_stops (s := s) (n := n) (k := (s.cad n).rearmed) true limit reached).trans
      (cadenceStop_awaiting (k := (s.cad n).rearmed.missed true) .missed running awaiting going)
    refine ⟨_, run, ?_⟩
    rw [expires, trigger_overlap (k := (s.cad n).rearmed) running, stops]
    exact .settle _ s (calm_of_context (i := contextOf n) calm rfl rfl rfl (.inr ⟨rfl, rfl⟩) (.inr ⟨rfl, fun idle => .inl idle⟩)
      (not_eligible (by simp [awaiting])))
  · exact leaves (expires.trans (trigger_stopping stopping)) rfl rfl rfl rfl

end
end

section
/-! Frames that come back damaged or as they were sent (R31, R55, R56), and what the Loop Port does at the end of an event when
a frame of its own is due or its DRAINING has ended (R62, R81, R82). -/

namespace Sys2Proof.Machine

open Sys2Proof

variable {s u : State} {i : CtxId} {c : Context}

/-! ### Station records -/

/-- The Station Table with the record of an address changed (R72). -/
def stationsWith (table : Vector Station 40) (a : Nat) (f : Station → Station) : Vector Station 40 :=
  match stationPlace a with
  | some p => table.set p (f table[p])
  | none => table

theorem modStation_eq (s : State) (a : Nat) (f : Station → Station) :
    s.modStation a f = { s with stations := stationsWith s.stations a f } := by
  cases place : stationPlace a <;> simp [State.modStation, stationsWith, place]

/-! ### The end of an event -/

/-- With nothing to release and nothing pending the next turn is the Loop Port's or the arbiter's (R50, R81, R82). -/
theorem turn_of_loop (released : s.released = [])
    (pending : s.intake.pendingList = [] ∨ ((s.ctx ctxA).state ≠ .idle ∧ (s.ctx ctxB).state ≠ .idle)) :
    s.turn = if s.loop.state = .draining ∧ s.loop.window = [] then some s.enterSwitching
      else if s.loop.sendDue = true ∧ s.loop.transmitting = none then some s.sendOwn else s.grant := by
  have starts : s.startPending = none := by
    rcases pending with none | ⟨a, b⟩
    · exact if_pos none
    · unfold State.startPending; rw [if_neg a, if_neg b]; exact ite_self _
  unfold State.turn
  simp only [released, freeOrder_nil, starts]

/-- A SWITCH that is due and that the free transmitter takes is the next turn (R82). -/
theorem turn_switchSent {x : Reconfigure} (released : s.released = []) (pending : s.intake.pendingList = [])
    (switching : s.loop.state = .switching) (op : s.loop.op = some (.reconfigure x)) (due : s.loop.sendDue = true)
    (free : s.loop.transmitting = none) : s.turn = some (s.switchSent x) := by
  rw [turn_of_loop released (.inl pending), if_neg (by simp [switching]), if_pos ⟨due, free⟩]
  unfold State.sendOwn State.switchSent
  simp only [switching, op, if_pos free]
  simp [State.setLoop, State.enterWindow, State.transmit, State.issue, State.count, Reconfigure.frame, Reconfigure.asked,
    switching]

/-- Outside OPEN and DRAINING, with no frame that can be sent, nothing follows. -/
theorem calm_of_recovery (released : s.released = [])
    (pending : s.intake.pendingList = [] ∨ ((s.ctx ctxA).state ≠ .idle ∧ (s.ctx ctxB).state ≠ .idle))
    (state : s.loop.state ≠ .opened ∧ s.loop.state ≠ .draining) (silent : s.loop.sendDue = false ∨ s.loop.transmitting ≠ none) :
    s.calm = true := by
  refine (calm_iff s).2 ⟨fun can => ?_, fun ⟨draining, _⟩ => state.2 draining, fun ⟨due, free⟩ => ?_, released, pending⟩
  · simp [State.canGrant, state.1] at can
  · exact silent.elim (fun none => by simp [none] at due) (fun busy => busy free)

/-- What is to be released stays so, unless a loop operation completes (R10, R75). -/
theorem released_of_op (released : s.released = []) (contexts : u.contexts = s.contexts) (load : u.store.load = s.store.load)
    (op : u.loop.op = none → s.loop.op = none) : u.released = [] := by
  have ctx : u.ctx = s.ctx := by funext j; simp only [State.ctx, contexts]
  simp only [State.released, List.filter_eq_nil_iff] at released ⊢
  intro j request
  have stays := released j request
  simp only [Bool.and_eq_true, Bool.or_eq_true, beq_iff_eq, Option.isNone_iff_eq_none, ctx, load] at stays ⊢
  exact fun ⟨checking, waits⟩ => stays ⟨checking, waits.imp_right fun ⟨survey, gone⟩ => ⟨survey, op gone⟩⟩

/-- Behind a SWITCH that has been sent nothing follows. -/
theorem calm_switchSent {x : Reconfigure} (released : s.released = []) (pending : s.intake.pendingList = [])
    (free : s.loop.transmitting = none) : (s.switchSent x).calm = true := by
  unfold State.switchSent
  rw [if_pos free]
  exact calm_of_recovery (released_of_op released rfl rfl fun gone => by cases gone) (.inl pending)
    ⟨by simp, by simp⟩ (.inl rfl)

/-- The loop enters SWITCHING with the SWITCH of the first listed station due (R82). -/
theorem enterSwitching_first {x : Reconfigure} {a : Nat} (op : s.loop.op = some (.reconfigure x)) (low : 1 ≤ a) (high : a ≤ 40)
    (listed : x.listed a = true) (first : ∀ k, 1 ≤ k → k < a → x.listed k = false)
    (moves : ¬ (x.bypass.getLsbD a = true ∧ (s.station a).state = .bypassed)) :
    s.enterSwitching = { s with loop := { s.loop with
      state := .switching, sendDue := true,
      op := some (.reconfigure { x with current := a, retries := s.engine.config.retryLimit, resent := false }) } } := by
  have walk := switchWalk_first a x (s.setLoop fun l => { l with state := .switching }) listed moves 40 1 low (by omega) first
  simp only [State.enterSwitching, op, State.switchNext, Nat.sub_zero, Nat.zero_add, walk]
  rfl

/-- The end of an event that leaves DRAINING with an empty window: the loop enters SWITCHING, and the SWITCH of the first
listed station goes out or waits for the transmitter (R47, R81, R82). -/
theorem Wakes.settle_drained (before : State) {x : Reconfigure} {a : Nat} (active : s.active = true)
    (released : s.released = []) (pending : s.intake.pendingList = []) (draining : s.loop.state = .draining)
    (empty : s.loop.window = []) (op : s.loop.op = some (.reconfigure x)) (low : 1 ≤ a) (high : a ≤ 40)
    (listed : x.listed a = true) (first : ∀ k, 1 ≤ k → k < a → x.listed k = false)
    (moves : ¬ (x.bypass.getLsbD a = true ∧ (s.station a).state = .bypassed)) :
    Wakes (s.switchSent { x with current := a, retries := s.engine.config.retryLimit, resent := false })
      (s.settle before) := by
  generalize next : ({ x with current := a, retries := s.engine.config.retryLimit, resent := false } : Reconfigure) = y
  let v : State := { s with loop := { s.loop with state := .switching, op := some (.reconfigure y), sendDue := true } }
  have enters : s.turn = some v := by
    rw [turn_of_loop released (.inl pending), if_pos ⟨draining, empty⟩, enterSwitching_first op low high listed first moves, next]
  have waits : v.released = [] := released_of_op released rfl rfl fun gone => by cases gone
  have same : v.switchSent y = s.switchSent y := rfl
  by_cases free : s.loop.transmitting = none
  · rw [← same, settle_two s before v _ active enters (turn_switchSent waits pending rfl rfl rfl free)
      (turn_none_of_calm _ (calm_switchSent waits pending free)) (by unfold State.switchSent; rw [if_pos free])]
    exact .settleIntake _ _
  · have due : s.switchSent y = v := if_neg free
    rw [due, settle_one s before v active enters
      (turn_none_of_calm _ (calm_of_recovery waits (.inl pending) ⟨by simp [v], by simp [v]⟩ (.inr free))) rfl]
    exact .settleIntake _ _

/-! ### Returned and damaged frames -/

/-- A state whose loop differs in its counts, its line-loss latch and its receiver alone is as calm as it was. -/
theorem calm_of_heard (calm : s.calm = true) {stats : Stats}
    (contexts : u.contexts = s.contexts) (store : u.store = s.store) (intake : u.intake = s.intake)
    (loop : u.loop = { s.loop with lineLoss := false, receiver := .between false, stats }) : u.calm = true := by
  rw [← calm]
  have ctx : u.ctx = s.ctx := by funext j; simp only [State.ctx, contexts]
  simp only [State.calm, State.loopWaits, State.canGrant, State.pick, State.pickCadence, State.pickRequest, State.released,
    ctx, loop, store, intake]

/-- A frame that its context has left to it goes to the element's outcome (R25). -/
theorem deliver_run (o : FrameOutcome) (job : (u.ctx i).job ≠ .survey) : u.deliver i o = u.elementOutcome i o := by
  unfold State.deliver
  split
  · rename_i survey; exact absurd survey job
  · rfl

/-- A bad check costs a context that has retries one of them, and it is to send again (R31, R76). -/
theorem deliver_retry (going : (u.ctx i).cancel = none) (retries : 0 < (u.ctx i).retries) :
    u.deliver i .checkFailure = u.setCtx i { u.ctx i with retries := (u.ctx i).retries - 1, state := .issuing } := by
  unfold State.deliver
  split <;> simp [State.probeOutcome, State.elementOutcome, going, retries]

/-- A COMMAND that comes back halts a RUN whose element halts on an error: NO STATION (R25, R34, R73). -/
theorem deliver_returned {z : Slot} (job : (u.ctx i).job = .run) (going : (u.ctx i).cancel = none)
    (halts : (u.ctx i).elem.goOn = false) (slot : u.slot (u.ctx i).owner = some z) :
    ∃ c' : Context, c'.state = .idle ∧ u.deliver i .returned =
      (({ u with stations := stationsWith u.stations (u.ctx i).elem.station.toNat fun x => { x with state := .absent } }.finished
        (u.ctx i).owner z
        { result := 14, stepError := 2, station := (u.ctx i).elem.station.toNat, stepIndex := (u.ctx i).step,
          countA := BitVec.ofNat 32 (u.ctx i).entries, countB := BitVec.ofNat 32 (u.ctx i).words } 0x20
        (le 4 (u.ctx i).shortSteps ++ le 4 (u.ctx i).continued ++ le 4 (u.ctx i).lmax ++ le 4 (u.ctx i).wmax)).dropHold
        i).setCtx i c' := by
  rw [deliver_run _ (by simp [job])]
  simp only [State.elementOutcome, modStation_eq]
  generalize stationsWith u.stations (u.ctx i).elem.station.toNat _ = table
  have halted := stepError_halts (u := { u with stations := table }) (i := i) (c := u.ctx i) .noStation false false
    (.inr halts)
  have same : ({ u with stations := table } : State).setCtx i (u.ctx i) = { u with stations := table } :=
    setCtx_self { u with stations := table } i
  obtain ⟨c', idle, ends⟩ := halt_run (u := { u with stations := table }) (i := i) .noStation job going slot
  rw [same] at halted ends
  exact ⟨c', idle, halted.trans ends⟩

variable {r : InFlight} {rest : List InFlight}

theorem framed_frameReturns (window : s.loop.window = r :: rest) (returns : s.loop.state.returns r.frame.type = true) :
    s.framed.frameReturns r.frame = s.framed.popOldest.hand r.owner .returned := by
  unfold State.frameReturns
  simp only [State.framed_loop, window, returns, and_self, if_true]

theorem framed_badCheck (window : s.loop.window = r :: rest) (state : s.loop.state.matches = true) :
    s.framed.badCheck = s.framed.countCheck.popOldest.hand r.owner .checkFailure := by
  unfold State.badCheck
  simp only [State.framed_loop, window, state, if_true]

end Sys2Proof.Machine

section
open Sys2Proof Sys2Proof.Machine

/-- Settles O53: the oldest record's owner takes the outcome; a DRAINING that it empties goes on to SWITCHING. -/
theorem returnedAndDamagedFrames : Obligations.ReturnedAndDamagedFrames := by
  intro s live released none_pending damaged heard
  have returned : ∀ f, exec (.frameReturned f) s = .next ((s.framed.frameReturns f).settle s) := fun f =>
    congrArg Host.Outcome.next (event_eq live _)
  have bad : exec .badCheckFrame s = .next (s.framed.badCheck.settle s) := congrArg Host.Outcome.next (event_eq live _)
  refine ⟨fun r rest i window owner going => ?_, fun calm => ⟨fun state empty => ⟨_, bad, ?_⟩, fun syncing waits => ⟨_, bad, ?_⟩,
    fun state => ⟨_, bad, ?_⟩⟩⟩
  · have tail : s.loop.window.tail = rest := by rw [window]; rfl
    have retries : s.loop.state.matches = true → 0 < (s.ctx i).retries → s.framed.badCheck =
        { s with
          loop := { heard with window := rest, stats := damaged },
          contexts := s.contexts.set i { s.ctx i with retries := (s.ctx i).retries - 1, state := .issuing } } := by
      intro state left
      rw [framed_badCheck window state, owner]
      refine (deliver_retry (u := s.framed.countCheck.popOldest) going left).trans ?_
      simp only [← tail]
      rfl
    refine ⟨fun opened busy => ⟨fun z type job halts slot => ?_, fun left present => ?_⟩,
      fun x a active draining empty left op low high listed first moves => ?_⟩
    · obtain ⟨c', idle, ends⟩ := deliver_returned (u := s.framed.popOldest) job going halts slot
      refine ⟨_, c', returned r.frame, idle, ?_⟩
      rw [framed_frameReturns window (by simp [LoopState.returns, type, opened]), owner, modStation_eq]
      simp only [State.hand, ends]
      simp only [← tail]
      exact .settle_opened_silent (c := c') s opened busy released none_pending rfl ⟨_, _, rfl⟩ rfl (by rw [idle]; decide)
        (not_eligible (by rw [idle]; decide))
    · refine ⟨_, bad, ?_⟩
      rw [retries (by simp [LoopState.matches, opened]) left]
      exact .settle_opened s opened busy released none_pending rfl ⟨_, _, rfl⟩ rfl (by simp) fun free _ =>
        present.resolve_left (by simp [free])
    · refine ⟨_, bad, ?_⟩
      rw [retries (by simp [LoopState.matches, draining]) left]
      exact .settle_drained s active (released_of_context released rfl rfl rfl (.inl (by simp))) none_pending draining empty op
        low high (by simpa [Reconfigure.listed] using listed) (fun k from_one below => by
          simpa [Reconfigure.listed] using first k from_one below) moves
  · have counts : s.framed.badCheck = { s with loop := { heard with stats := damaged } } := by
      have state : s.loop.state.matches = true := by rcases state with e | e <;> simp [LoopState.matches, e]
      unfold State.badCheck
      simp only [State.framed_loop, state, if_true, empty]
      rfl
    rw [counts]
    exact .settle _ s (calm_of_heard calm rfl rfl rfl rfl)
  · have counts : s.framed.badCheck = { s with loop := { heard with stats := damaged } } := by
      unfold State.badCheck
      simp [LoopState.matches, syncing, waits]
      rfl
    rw [counts]
    exact .settle _ s (calm_of_heard calm rfl rfl rfl rfl)
  · have ignores : s.framed.badCheck = { s with loop := heard } := by
      unfold State.badCheck
      rcases state with e | e | e | ⟨e, idle⟩ <;> simp [LoopState.matches, *] <;> rfl
    rw [ignores]
    exact .settle _ s (calm_of_heard calm rfl rfl rfl rfl)

end
end

section
/-! The Loop Port's timers (R44, R61, R62, R64, R82, R85). -/

namespace Sys2Proof.Machine

open Sys2Proof

variable {s u : State} {i : CtxId}

/-! ### SYNCING -/

/-- The loop as it enters SYNCING with its first attempt due (R62). -/
def LoopPort.firstSync (l : LoopPort) : LoopPort :=
  { l with
    state := .syncing, window := [], sequence := 0, attempt := 1, settleTimer := none, quietTimer := none, syncTimer := none,
    syncWaits := true, sendDue := true }

theorem enterSyncing_eq (s : State) : s.enterSyncing = { s with loop := s.loop.firstSync } := rfl

theorem quietEnds_syncing (after : s.loop.afterQuiet = .syncing) :
    s.quietEnds = { s with loop := { s.loop.firstSync with afterQuiet := .syncing } } := by
  simp only [State.quietEnds, after]
  rfl

theorem quietEnds_switching (after : s.loop.afterQuiet = .switching) :
    s.quietEnds = ({ s with loop := { s.loop with quietTimer := none, afterQuiet := .syncing } } : State).enterSwitching := by
  simp only [State.quietEnds, after]
  rfl

/-- A SYNC frame that is due goes out at the end of the event, or waits for the transmitter (R47, R62, R68). -/
theorem Wakes.settle_sync (before : State) (active : s.active = true) (released : s.released = [])
    (pending : s.intake.pendingList = [] ∨ ((s.ctx ctxA).state ≠ .idle ∧ (s.ctx ctxB).state ≠ .idle))
    (syncing : s.loop.state = .syncing) (due : s.loop.sendDue = true) : ∃ u, Wakes u (s.settle before) ∧
      (s.loop.transmitting = none → u = { s with
        loop := { s.loop with
          sendDue := false, transmitting := some (syncFrame s.loop.attempt),
          stats := { s.loop.stats with framesSent := satInc s.loop.stats.framesSent } },
        link := { s.link with issued := s.link.issued ++ [.frame (syncFrame s.loop.attempt)] } }) ∧
      (s.loop.transmitting ≠ none → u = s) := by
  by_cases free : s.loop.transmitting = none
  · let v : State := { s with
      loop := { s.loop with
        sendDue := false, transmitting := some (syncFrame s.loop.attempt),
        stats := { s.loop.stats with framesSent := satInc s.loop.stats.framesSent } },
      link := { s.link with issued := s.link.issued ++ [.frame (syncFrame s.loop.attempt)] } }
    have own : s.sendOwn = v := by
      unfold State.sendOwn
      rw [syncing]
      rfl
    have sends : s.turn = some v := by
      rw [turn_of_loop released pending, if_neg (by simp [syncing]), if_pos ⟨due, free⟩, own]
    have calm : v.calm = true :=
      calm_of_recovery released pending ⟨by simp [v, syncing], by simp [v, syncing]⟩ (.inl rfl)
    refine ⟨v, ?_, fun _ => rfl, fun busy => absurd free busy⟩
    rw [settle_one s before v active sends (turn_none_of_calm v calm) rfl]
    exact .settleIntake v before
  · exact ⟨s, .settle s before (calm_of_recovery released pending ⟨by simp [syncing], by simp [syncing]⟩ (.inr free)),
      fun none => absurd none free, fun _ => rfl⟩

/-! ### DOWN -/

/-- A state whose loop has gone DOWN, its cadences told (R64; log entry 14). -/
def State.downed (s : State) : State :=
  { s with
    loop := s.loop.endSyncing .down,
    cadences := mapTable (fun c => { c with downNotice := c.downNotice || c.state != .idle }) s.cadences }

@[simp] theorem downed_state (s : State) : s.downed.loop.state = .down := rfl

theorem enterDown_eq (s : State) : s.enterDown =
    (freeOrder s.downed s.downed.downTold).foldl State.tellDown (s.downed.chose s.downed.downTold) := rfl

/-- The cadences of a state that has gone DOWN. -/
theorem downed_cad (cadences : u.cadences = s.downed.cadences) (n : Fin 8) :
    u.cad n = { s.cad n with downNotice := (s.cad n).downNotice || (s.cad n).state != .idle } := by
  simp only [State.cad, cadences, State.downed]
  exact getElem_mapTable _ _ _ n.isLt

/-- The contexts in order of which only one meets a test. -/
theorem filter_one {p : CtxId → Bool} (mine : p i = true) (others : ∀ j, j ≠ i → p j = false) :
    ((List.range 10).map (Fin.ofNat 10)).filter p = [i] := by
  have only : p = (· == i) := by
    funext j
    by_cases same : j = i
    · subst same; simp [mine]
    · simp [others j same, same]
  have each : ∀ k : CtxId, ((List.range 10).map (Fin.ofNat 10)).filter (· == k) = [k] := by decide
  rw [only, each]

/-- With no context waiting to send, only a loop operation is told of DOWN (R64). -/
theorem downTold_silent (silent : ∀ i, (s.ctx i).waitsToSend = false) :
    s.downTold = if s.loop.op.isSome = true then [none] else [] := by
  simp [State.downTold, silent]

theorem enterDown_silent (silent : ∀ i, (s.ctx i).waitsToSend = false) (clear : s.loop.op = none) :
    s.enterDown = s.downed := by
  have told : s.downed.downTold = [] := by
    rw [downTold_silent (s := s.downed) silent, if_neg (by simp [State.downed, LoopPort.endSyncing, clear])]
  rw [enterDown_eq, told]
  rfl

theorem enterDown_op (silent : ∀ i, (s.ctx i).waitsToSend = false) (some : s.loop.op.isSome = true) :
    s.enterDown = s.downed.completeOp .loopDown := by
  have told : s.downed.downTold = [none] := by
    rw [downTold_silent (s := s.downed) silent, if_pos (by simpa [State.downed, LoopPort.endSyncing] using some)]
  rw [enterDown_eq, told]
  rfl

theorem enterDown_context (waits : (s.ctx i).waitsToSend = true) (others : ∀ j, j ≠ i → (s.ctx j).waitsToSend = false)
    (clear : s.loop.op = none) : s.enterDown = s.downed.stepError i .loopDown false false := by
  have told : s.downed.downTold = [some i] := by
    have only : ((List.range 10).map (Fin.ofNat 10)).filter (fun i => (s.downed.ctx i).waitsToSend) = [i] :=
      filter_one waits others
    simp only [State.downTold, only]
    simp [State.downed, LoopPort.endSyncing, clear]
  rw [enterDown_eq, told]
  rfl

/-- Contexts of which none is in CHECKING leave none to release (R10, R75). -/
theorem released_of_no_checking (unchecked : ∀ i, (s.ctx i).state ≠ .checking) : s.released = [] := by
  simp [State.released, unchecked]

/-- A LOOP RESTART completes with the number of its attempt (R66). -/
theorem completeOp_restart {j : Fin 40} {z : Slot} (r : Result) (op : s.loop.op = some (.restart j))
    (slot : s.slot j = some z) : s.completeOp r =
      ({ s with loop := { s.loop with op := none } } : State).finished j z
        { result := r.code, countA := BitVec.ofNat 32 s.loop.attempt } := by
  unfold State.completeOp
  simp only [op]
  exact finish_eq _ _ _ _ _ _ slot

/-- A RECONFIGURE completes with its outcomes and counts (R85). -/
theorem completeOp_reconfigure {x : Reconfigure} {z : Slot} (r : Result) (op : s.loop.op = some (.reconfigure x))
    (slot : s.slot x.slot = some z) : s.completeOp r =
      ({ s with loop := { s.loop with op := none } } : State).finished x.slot z
        { result := r.code, station := x.timedOut, countA := BitVec.ofNat 32 x.sent, countB := BitVec.ofNat 32 x.switched }
        0x20 (x.outcomes.toList.flatMap fun o => le 1 o.code) := by
  unfold State.completeOp
  simp only [op]
  exact finish_eq _ _ _ _ _ _ slot

end Sys2Proof.Machine

section
open Sys2Proof Sys2Proof.Machine

/-- Settles O58: each timer's next loop state, and the SYNC or SWITCH frame that the end of the event then sends. -/
theorem loopTimersLeadOn : Obligations.LoopTimersLeadOn := by
  intro s live running calm l stats syncing down sends downs
  have active : s.active = true := by simp [State.active, running]
  obtain ⟨-, -, -, released, pending⟩ := (calm_iff s).1 calm
  have quiet : exec .quietTimerExpiry s = .next (s.quietExpires.settle s) := congrArg Host.Outcome.next (event_eq live _)
  have settle : exec .settleTimerExpiry s = .next (s.settleEnds.settle s) := congrArg Host.Outcome.next (event_eq live _)
  have sync : exec .syncTimerExpiry s = .next (s.syncExpires.settle s) := congrArg Host.Outcome.next (event_eq live _)
  have interval : exec .syncQuietExpiry s = .next (s.syncQuietExpires.settle s) :=
    congrArg Host.Outcome.next (event_eq live _)
  have attempts : ∀ c l' u, exec c s = .next (u.settle s) → u = { s with loop := l' } → l'.state = .syncing →
      l'.sendDue = true → l'.op = l.op → l'.transmitting = l.transmitting → l'.stats = l.stats →
      sends c l' (syncFrame l'.attempt) := by
    rintro c l' u run rfl state due op free counts
    obtain ⟨v, wakes, sent, waits⟩ := Wakes.settle_sync (s := { s with loop := l' }) s active
      (released_of_op released rfl rfl fun none => by rwa [← op]) pending state due
    refine ⟨_, v, run, wakes, fun none => (sent (free.trans none)).trans ?_, fun busy => waits (by rwa [free])⟩
    simp only [counts]
    rfl
  have downed : ∀ u v, s.enterDown = u → l.state = .syncing → l.syncWaits = true → l.syncTimer.isSome = true →
      3 ≤ l.attempt → u.calm = true → u.cadences = s.downed.cadences →
      { u with cadences := s.cadences } = { v with loop := down } → downs v := by
    intro u v enters state waits timer last calm cadences rest
    refine ⟨_, u, sync, ?_, downed_cad cadences, rest⟩
    have expires : s.syncExpires = u := by
      rw [← enters]
      exact (if_pos ⟨state, waits, timer⟩).trans (if_neg (Nat.not_lt.2 last))
    rw [expires]
    exact .settle u s calm
  refine ⟨fun state timer after => ?_, fun x a state timer after empty op low high listed first moves => ?_,
    fun state timer => ?_, fun state idle timer => ?_,
    fun state waits timer => ⟨fun again => ?_, fun last silent => ⟨fun clear => ?_,
      fun j z op slot unchecked => ?_, fun x z op slot unchecked => ?_⟩,
      fun i z last clear waiting others job going slot empty => ?_⟩,
    fun other => ⟨_, quiet, ?_⟩, fun other => ⟨_, settle, ?_⟩, fun other => ⟨_, sync, ?_⟩, fun other => ⟨_, interval, ?_⟩⟩
  · refine attempts _ syncing _ quiet ?_ rfl rfl rfl rfl rfl
    have target : syncing = { s.loop.firstSync with afterQuiet := .syncing } := by
      simp only [syncing, l, if_pos state]
      rfl
    rw [target]
    exact (if_pos ⟨state, timer⟩).trans (quietEnds_syncing after)
  · have entered := enterSwitching_first
      (s := { s with loop := { s.loop with quietTimer := none, afterQuiet := .syncing } }) op low high
      (by simpa [Reconfigure.listed] using listed)
      (fun k from_one below => by simpa [Reconfigure.listed] using first k from_one below) moves
    let v : State := { s with loop := { s.loop with
      quietTimer := none, afterQuiet := .syncing, state := .switching, sendDue := true,
      op := some (.reconfigure { x with current := a, retries := s.engine.config.retryLimit, resent := false }) } }
    have next : s.quietExpires = v :=
      (if_pos ⟨state, timer⟩).trans ((quietEnds_switching after).trans entered)
    refine ⟨_, quiet, ?_⟩
    rw [next]
    exact Wakes.settle_switchSent v s _ active rfl rfl rfl (released_of_op released rfl rfl fun gone => by cases gone) pending
  · refine attempts _ syncing _ settle ?_ rfl rfl rfl rfl rfl
    have target : syncing = s.loop.firstSync := by
      simp only [syncing, l, if_neg (show s.loop.state ≠ .quiet by simp [state])]
      rfl
    rw [target]
    exact (if_pos ⟨state, timer⟩).trans (enterSyncing_eq s)
  · exact attempts _ { l with
      attempt := l.attempt + 1, syncWaits := true, sendDue := true, quietTimer := none, syncTimer := none } _ interval
      (if_pos ⟨state, by simp [show s.loop.syncWaits = false from idle], timer⟩) state rfl rfl rfl rfl
  · have fails : s.syncExpires = { s with loop := { l with
        syncWaits := false, sendDue := false, syncTimer := none,
        quietTimer := some (2 * s.engine.config.replyTimeout) } } :=
      (if_pos ⟨state, waits, timer⟩).trans (if_pos again)
    refine ⟨_, sync, ?_⟩
    rw [fails]
    exact .settle _ s (calm_of_recovery released pending ⟨by simp [l, state], by simp [l, state]⟩ (.inl rfl))
  · refine downed _ _ (enterDown_silent silent clear) state waits timer last
      (calm_of_recovery released pending ⟨by simp, by simp⟩ (.inl rfl)) rfl ?_
    simp [State.downed, LoopPort.endSyncing, clear, l, down]
  · have completes := (enterDown_op silent (by simp [show s.loop.op = _ from op])).trans
      (completeOp_restart (s := s.downed) .loopDown op slot)
    exact downed _ _ completes state waits timer last
      (calm_of_recovery (released_of_no_checking unchecked) pending ⟨by simp, by simp⟩ (.inl rfl)) rfl rfl
  · have completes := (enterDown_op silent (by simp [show s.loop.op = _ from op])).trans
      (completeOp_reconfigure (s := s.downed) .loopDown op slot)
    exact downed _ _ completes state waits timer last
      (calm_of_recovery (released_of_no_checking unchecked) pending ⟨by simp, by simp⟩ (.inl rfl)) rfl rfl
  · have fails := (enterDown_context waiting others clear).trans
      (congrArg (State.stepError · i .loopDown false false) (setCtx_self s.downed i).symm)
    obtain ⟨c', idle, halted⟩ := halt_run (u := s.downed) (i := i) .loopDown job going slot
    refine ⟨c', idle, downed _ _ (fails.trans ((stepError_halts _ _ _ (.inl rfl)).trans halted)) state waits timer last
      (calm_of_recovery (released_of_context (c := c') released rfl rfl rfl (.inl (by rw [idle]; decide))) (.inl empty)
        ⟨by simp, by simp⟩ (.inl rfl)) rfl ?_⟩
    have rest : s.downed.loop = down := by simp [State.downed, LoopPort.endSyncing, clear, l, down]
    rw [← rest]
    rfl
  · have ignores : s.quietExpires = s := if_neg fun ⟨state, timer⟩ => by
      simp [l, state, Option.isSome_iff_ne_none.1 timer] at other
    rw [ignores]; exact .settle s s calm
  · have ignores : s.settleEnds = s := if_neg fun ⟨state, timer⟩ => by
      simp [l, state, Option.isSome_iff_ne_none.1 timer] at other
    rw [ignores]; exact .settle s s calm
  · have ignores : s.syncExpires = s := if_neg fun ⟨state, waits, timer⟩ => by
      simp [l, state, waits, Option.isSome_iff_ne_none.1 timer] at other
    rw [ignores]; exact .settle s s calm
  · have ignores : s.syncQuietExpires = s := if_neg fun ⟨state, waits, timer⟩ => by
      simp [l, state, waits, Option.isSome_iff_ne_none.1 timer] at other
    rw [ignores]; exact .settle s s calm

end
end

section
/-! An accepted REPLY: what it makes of its context's element (R25 to R36, R41). -/

namespace Sys2Proof.Machine

open Sys2Proof

variable {s u : State} {i : CtxId} {c : Context} {r : InFlight} {rest : List InFlight}

/-! ### The REPLY heard -/

/-- The loop behind an accepted REPLY: the oldest record has left the window, and the REPLY is counted (R56, R68). -/
def State.heardReply (s : State) (rest : List InFlight) : State :=
  { s with loop := { s.loop with
      window := rest, lineLoss := false, receiver := .between false,
      stats := { s.loop.stats with repliesAccepted := satInc s.loop.stats.repliesAccepted } } }

theorem framed_replyArrives (window : s.loop.window = r :: rest) (state : s.loop.state.matches = true) (ack ready : Bool)
    (data : Word) : s.framed.replyArrives r.sequence r.frame.station ack ready data =
      (s.heardReply rest).hand r.owner (.reply ack ready data) := by
  have tail : s.loop.window.tail = rest := by rw [window]; rfl
  unfold State.replyArrives
  simp only [State.framed_loop, window, state, and_self, if_true]
  rw [← tail]
  rfl

/-- The state with the station of an address PRESENT (R73). -/
def State.answered (u : State) (a : Nat) : State :=
  { u with stations := stationsWith u.stations a fun x => { x with state := .present } }

/-- A station whose record has been set to PRESENT is not BYPASSED (R73). -/
theorem station_answered (stations : u.stations = stationsWith s.stations a fun x => { x with state := .present }) :
    (u.station a).state ≠ .bypassed := by
  cases place : stationPlace a with
  | none => simp [State.station, place, Station.afterReset]
  | some p => simp [State.station, place, stations, stationsWith]

/-- The record of a context that has taken a REPLY (R25). -/
def Context.told (c : Context) (ack ready : Bool) (data : Word) : Context :=
  { c with lastData := c.elem.width.limit data, lastAck := ack, lastReady := ready }

section
variable (data : Word) (mine : u.ctx i = c) (own : c.job ≠ .survey)
include mine own

/-- A REPLY with ack 0 is the step error REFUSED (R25). -/
theorem deliver_refused (ready : Bool) : u.deliver i (.reply false ready data) =
    ((u.answered c.elem.station.toNat).setCtx i (c.told false ready data)).stepError i .refused false ready := by
  rw [deliver_run _ (by rwa [mine])]
  simp only [State.elementOutcome, mine, modStation_eq, if_true]
  rfl

/-- A REPLY that is ready, or not ready under ACCEPT, completes the element (R26, R27). -/
theorem deliver_completed {ready : Bool} (completes : ready = true ∨ c.elem.readiness = .accept) :
    u.deliver i (.reply true ready data) =
      ((u.answered c.elem.station.toNat).setCtx i (c.told true ready data)).completeElement i ready data := by
  rw [deliver_run _ (by rwa [mine])]
  simp only [State.elementOutcome, mine, modStation_eq]
  cases ready with
  | true => rfl
  | false => simp only [completes.resolve_left (by decide)]; rfl

/-- Not ready under STOP ends the step short (R28). -/
theorem deliver_short (stop : c.elem.readiness = .stop) : u.deliver i (.reply true false data) =
    ((u.answered c.elem.station.toNat).setCtx i (c.told true false data)).endShort i := by
  rw [deliver_run _ (by rwa [mine])]
  simp only [State.elementOutcome, mine, modStation_eq, stop]
  rfl

/-- Not ready under AWAIT waits on (R29). -/
theorem deliver_await (await : c.elem.readiness = .await) : u.deliver i (.reply true false data) =
    ((u.answered c.elem.station.toNat).setCtx i (c.told true false data)).awaitReady i := by
  rw [deliver_run _ (by rwa [mine])]
  simp only [State.elementOutcome, mine, modStation_eq, await]
  rfl

end

/-! ### Elements that complete, fail, end short or wait on -/

theorem completeElement_exchange (job : c.job = .exchange) (ready : Bool) (data : Word) :
    (u.setCtx i c).completeElement i ready data = (u.setCtx i c).completeExchange i .done := by
  simp [State.completeElement, job]

/-- A completed element of a logged step first writes its DATA entry; then the element ends (R26, R35). -/
theorem completeElement_eq (own : c.job ≠ .exchange) (ready : Bool) (data : Word) :
    (u.setCtx i c).completeElement i ready data = (if c.elem.access.logged = true then
        (u.setCtx i c).writeEntry i .data c.elem.station c.element true ready false (c.elem.width.limit data)
      else u.setCtx i c).endElement i := by
  unfold State.completeElement
  simp only [State.ctx_setCtx_same]

theorem ended_inline (inline : c.elem.access.isInput = false) :
    c.ended = { c with remaining := c.remaining - 1, readyOn := false } := by
  simp [Context.ended, inline]

theorem ended_input (input : c.elem.access.isInput = true) : c.ended = { c with
    inCursor := c.inCursor + 4, words := c.words + 1, remaining := c.remaining - 1, readyOn := false } := by
  simp [Context.ended, input]

/-- With elements left, one without an input word begins behind the element that has ended (R21, R23, R36). -/
theorem endElement_inline (up : u.loop.state ≠ .down) (going : c.cancel = none) (more : 1 < c.remaining)
    (inline : c.elem.access.isInput = false) : (u.setCtx i c).endElement i =
      u.setCtx i (Context.begun { c with remaining := c.remaining - 1, element := c.element + 1 } u.engine.config.retryLimit) := by
  rw [endElement_more going more, ended_inline inline]
  exact beginElement_inline up inline

/-- With elements left, one with an input word consumes it, and the next one first reads its own (R22, R36). -/
theorem endElement_input (up : u.loop.state ≠ .down) (going : c.cancel = none) (more : 1 < c.remaining)
    (input : c.elem.access.isInput = true) : (u.setCtx i c).endElement i =
      (u.access fun acc => .read acc (c.inCursor + 4) 4).setCtx i
        { Context.begun { c with remaining := c.remaining - 1, element := c.element + 1 } u.engine.config.retryLimit with
          inCursor := c.inCursor + 4, words := c.words + 1, inputRead := some u.link.nextAcc } := by
  rw [endElement_more going more, ended_input input]
  exact beginElement_input up input

/-- The record of a context that goes on past a step error (R33). -/
def Context.passed (c : Context) (err : StepError) : Context :=
  { c with
    continued := c.continued + 1,
    failing := some (c.failing.getD { step := c.step, error := err, station := c.elem.station }) }

/-- Under GO ON a step error writes a failed entry when its step is logged, and the element ends (R33). -/
theorem stepError_goesOn (err : StepError) (ack ready : Bool) (follows : err.followsOnError = true)
    (goOn : c.elem.goOn = true) (own : c.job ≠ .exchange) :
    (u.setCtx i c).stepError i err ack ready =
      (if c.elem.access.logged = true then
        (u.setCtx i (c.passed err)).writeEntry i .data c.elem.station c.element ack ready true (BitVec.ofNat 32 err.code)
      else u.setCtx i (c.passed err)).endElement i := by
  have kept : c.failing.or (some { step := c.step, error := err, station := c.elem.station }) =
      some (c.failing.getD { step := c.step, error := err, station := c.elem.station }) := by cases c.failing <;> rfl
  unfold State.stepError
  simp only [State.ctx_setCtx_same, follows, goOn, bne_iff_ne.2 own, Bool.and_self, if_true, setCtx_setCtx_same, kept]
  rfl

/-- The record of a context whose step ends short (R28). -/
def Context.cut (c : Context) : Context := { c with shortPending := true, shortSteps := c.shortSteps + 1, readyOn := false }

theorem endShort_exchange (job : c.job = .exchange) :
    (u.setCtx i c).endShort i = (u.setCtx i c.cut).completeExchange i .done := by
  simp [State.endShort, job, Context.cut]

theorem endShort_run (job : c.job = .run) : (u.setCtx i c).endShort i = (u.setCtx i c.cut).nextStep i := by
  simp [State.endShort, job, Context.cut]

/-- A ready-wait that has reached its limit is the step error READY TIMEOUT (R30). -/
theorem awaitReady_timeout (limited : 0 < u.engine.config.readyWaitLimit)
    (reached : u.engine.config.readyWaitLimit * 1000 ≤ c.readyWait) :
    (u.setCtx i c).awaitReady i = (u.setCtx i { c with readyOn := true }).stepError i .readyTimeout true false := by
  have limit : 0 < u.engine.config.readyWaitLimit * 1000 ∧ u.engine.config.readyWaitLimit * 1000 ≤ c.readyWait :=
    ⟨by omega, reached⟩
  unfold State.awaitReady
  rw [State.ctx_setCtx_same]
  refine (if_pos limit).trans ?_
  rw [setCtx_setCtx_same]

section
variable (going : c.cancel = none)
  (under : u.engine.config.readyWaitLimit = 0 ∨ c.readyWait < u.engine.config.readyWaitLimit * 1000)
include going under

/-- Under its limit a context backs off for the await gap (R29). -/
theorem awaitReady_gap (gap : u.engine.config.awaitGap ≠ 0) : (u.setCtx i c).awaitReady i =
    u.setCtx i { c with readyOn := true, state := .backingOff, timer := some u.engine.config.awaitGap } := by
  have limit : ¬ (0 < u.engine.config.readyWaitLimit * 1000 ∧ u.engine.config.readyWaitLimit * 1000 ≤ c.readyWait) := by omega
  unfold State.awaitReady
  rw [State.ctx_setCtx_same]
  refine (if_neg limit).trans ((if_neg (by simp [going])).trans ((if_neg gap).trans ?_))
  rw [setCtx_setCtx_same, setCtx_setCtx_same]
  rfl

/-- With no await gap it is to send again at once (R29). -/
theorem awaitReady_now (gap : u.engine.config.awaitGap = 0) : (u.setCtx i c).awaitReady i =
    u.setCtx i { c with readyOn := true, state := .issuing } := by
  have limit : ¬ (0 < u.engine.config.readyWaitLimit * 1000 ∧ u.engine.config.readyWaitLimit * 1000 ≤ c.readyWait) := by omega
  unfold State.awaitReady
  rw [State.ctx_setCtx_same]
  refine (if_neg limit).trans ((if_neg (by simp [going])).trans ((if_pos gap).trans ?_))
  rw [setCtx_setCtx_same, setCtx_setCtx_same]

end

/-! ### What a REPLY makes of an element of a RUN -/

section
variable (data : Word) (mine : u.ctx i = c) (up : u.loop.state ≠ .down) (job : c.job = .run) (going : c.cancel = none)
include mine up job going

/-- REFUSED under GO ON writes its failed entry when logged, and the next element begins (R25, R33, R35). -/
theorem refused_goesOn (ready : Bool) (goOn : c.elem.goOn = true) (more : 1 < c.remaining)
    (inline : c.elem.access.isInput = false) :
    u.deliver i (.reply false ready data) =
      ({ u.answered c.elem.station.toNat with link := { u.link with issued := u.link.issued ++ if c.elem.access.logged = true then
          [Issue.write c.outCursor (c.entry u.engine.timeBase .data c.elem.station c.element
            false ready true 1)] else [] } } : State).setCtx i
        (Context.begun
          (if c.elem.access.logged = true then
            { (c.told false ready data).passed .refused with
              remaining := c.remaining - 1, element := c.element + 1, entries := c.entries + 1,
              outCursor := c.outCursor + 16, shortPending := false }
          else { (c.told false ready data).passed .refused with
            remaining := c.remaining - 1, element := c.element + 1 }) u.engine.config.retryLimit) := by
  have next := (deliver_refused data mine (by simp [job]) ready).trans
    (stepError_goesOn (c := c.told false ready data) .refused false ready rfl goOn (by simp [Context.told, job]))
  by_cases logged : c.elem.access.logged = true
  · rw [if_pos (show (c.told false ready data).elem.access.logged = true from logged),
      writeEntry_run (c := (c.told false ready data).passed .refused) _ _ _ _ _ _ _ job] at next
    rw [if_pos logged, if_pos logged]
    exact next.trans (endElement_inline up going more inline)
  · rw [if_neg (show ¬ (c.told false ready data).elem.access.logged = true from logged)] at next
    rw [if_neg logged, if_neg logged, List.append_nil]
    exact next.trans (endElement_inline up going more inline)

section
variable {ready : Bool} (completes : ready = true ∨ c.elem.readiness = .accept) (more : 1 < c.remaining)
  (silent : c.elem.access.logged = false)
include completes more silent

/-- A completed element that is not logged leads to the next one (R26, R36). -/
theorem completed_next (inline : c.elem.access.isInput = false) : u.deliver i (.reply true ready data) =
    (u.answered c.elem.station.toNat).setCtx i (Context.begun { c.told true ready data with
      remaining := c.remaining - 1, element := c.element + 1 } u.engine.config.retryLimit) := by
  rw [deliver_completed data mine (by simp [job]) completes, completeElement_eq (by simp [Context.told, job]),
    if_neg (by simp [Context.told, silent])]
  exact endElement_inline up going more inline

/-- One with an input word consumes it, and the next element first reads its own (R22, R36). -/
theorem completed_next_input (input : c.elem.access.isInput = true) : u.deliver i (.reply true ready data) =
    ((u.answered c.elem.station.toNat).access fun acc => .read acc (c.inCursor + 4) 4).setCtx i
      { Context.begun { c.told true ready data with
          remaining := c.remaining - 1, element := c.element + 1 } u.engine.config.retryLimit with
        inCursor := c.inCursor + 4, words := c.words + 1, inputRead := some u.link.nextAcc } := by
  rw [deliver_completed data mine (by simp [job]) completes, completeElement_eq (by simp [Context.told, job]),
    if_neg (by simp [Context.told, silent])]
  exact endElement_input up going more input

end

/-- Not ready under STOP leads to the next step, here an EXCHANGE (R21, R28). -/
theorem short_next {e : Exchange} (stop : c.elem.readiness = .stop)
    (step : fetchStep u.store.steps (c.step + 1) = some (.exchange e)) (inline : e.access.isInput = false) :
    u.deliver i (.reply true false data) = (u.answered c.elem.station.toNat).setCtx i
      (Context.begun { c.told true false data with
        shortPending := true, shortSteps := c.shortSteps + 1, step := c.step + 1, elem := e, remaining := 1,
        element := 0 } u.engine.config.retryLimit) := by
  rw [deliver_short data mine (by simp [job]) stop, endShort_run (by simp [Context.told, job]), nextStep_eq]
  exact (beginStepAt_element (u := u.answered c.elem.station.toNat)
    (c := { (c.told true false data).cut with step := c.step + 1 }) going step (.inl ⟨rfl, rfl⟩)).trans
    (beginElement_inline up inline)

end

end Sys2Proof.Machine

section
open Sys2Proof Sys2Proof.Machine

/-- Settles O52: the REPLY is one of four outcomes of the element, each a change of its context alone. -/
theorem replyEndsOrHoldsElement : Obligations.ReplyEndsOrHoldsElement := by
  intro s r rest i z data live opened busy window owner released none_pending going slot c station value reply heard told begun
    failed
  have heard_eq : heard = (s.heardReply rest).answered station := by simp only [heard, modStation_eq]; rfl
  have mine : (s.heardReply rest).ctx i = c := rfl
  have atWork : s.ctx i = c := rfl
  rw [atWork] at going slot
  have run : ∀ ack ready, reply ack ready =
      .next (((s.heardReply rest).deliver i (.reply ack ready data)).settle s) := fun ack ready =>
    (congrArg Host.Outcome.next (event_eq live _)).trans
      (by rw [framed_replyArrives window (by simp [LoopState.matches, opened]), owner]; rfl)
  clear_value heard c
  subst heard_eq
  have up : (s.heardReply rest).loop.state ≠ .down := fun down => by
    rw [show s.loop.state = .down from down] at opened; cases opened
  have answers : ∀ {u : State}, u.stations = ((s.heardReply rest).answered station).stations →
      (u.station station).state ≠ .bypassed := fun stations => station_answered (s := s.heardReply rest) stations
  have offers : ∀ ack ready u c', (s.heardReply rest).deliver i (.reply ack ready data) = u →
      u.contexts = s.contexts.set i c' → u.loop = (s.heardReply rest).loop → u.store.load = s.store.load →
      u.intake.pendingList = s.intake.pendingList → c'.state ≠ .checking →
      (s.loop.transmitting = none → c'.eligible = true → (u.station c'.elem.station.toNat).state ≠ .bypassed) →
      ∃ t, reply ack ready = .next t ∧ Wakes (u.offered i) t := by
    intro ack ready u c' outcome contexts loop load pending settled present
    refine ⟨_, run ack ready, ?_⟩
    rw [outcome]
    exact .settle_opened s opened busy released (pending.trans none_pending) contexts ⟨_, _, loop⟩ load settled present
  have leaves : ∀ ack ready u c', (s.heardReply rest).deliver i (.reply ack ready data) = u →
      u.contexts = s.contexts.set i c' → u.loop = (s.heardReply rest).loop → u.store.load = s.store.load →
      u.intake.pendingList = s.intake.pendingList → c'.state ≠ .checking → c'.eligible = false →
      ∃ t, reply ack ready = .next t ∧ Wakes u t := by
    intro ack ready u c' outcome contexts loop load pending settled silent
    refine ⟨_, run ack ready, ?_⟩
    rw [outcome]
    exact .settle_opened_silent s opened busy released (pending.trans none_pending) contexts ⟨_, _, loop⟩ load settled silent
  have halts : ∀ (err : StepError) (ack ready ack' ready' on : Bool) (x : Word), c.job = .run → c.elem.goOn = false →
      (s.heardReply rest).deliver i (.reply ack ready data) = (((s.heardReply rest).answered station).setCtx i
        { c with lastData := x, lastAck := ack', lastReady := ready', readyOn := on }).stepError i err ack ready →
      failed err.code ack ready := by
    intro err ack ready ack' ready' on x job halting outcome
    have stops := stepError_halts (u := (s.heardReply rest).answered station) (i := i)
      (c := { c with lastData := x, lastAck := ack', lastReady := ready', readyOn := on }) err ack ready (.inr halting)
    obtain ⟨c', idle, halted⟩ := halt_run (u := (s.heardReply rest).answered station) (i := i)
      (c := { c with lastData := x, lastAck := ack', lastReady := ready', readyOn := on }) err job going slot
    obtain ⟨t, replies, wakes⟩ := leaves ack ready _ c' (outcome.trans (stops.trans halted)) rfl rfl rfl rfl
      (by rw [idle]; decide) (not_eligible (by rw [idle]; decide))
    exact ⟨t, c', replies, idle, wakes⟩
  have exchanges : ∀ (ready : Bool) (d : Context) (n : Nat), d.cancel = none → d.owner = c.owner → d.elem = c.elem →
      d.exchangeBytes false = le32 value ++ le 4 c.attempts ++ le 1 n →
      (s.heardReply rest).deliver i (.reply true ready data) =
        (((s.heardReply rest).answered station).setCtx i d).completeExchange i .done →
      ∃ t c', reply true ready = .next t ∧ c'.state = .idle ∧
        Wakes { ((s.heardReply rest).answered station).finished c.owner z { result := 0, station } 0x10
            (le32 value ++ le 4 c.attempts ++ le 1 n) with contexts := s.contexts.set i c' } t := by
    intro ready d n uncancelled own elem bytes outcome
    have done := completeExchange_done (u := (s.heardReply rest).answered station) (i := i) uncancelled (own ▸ slot)
    obtain ⟨t, replies, wakes⟩ := leaves true ready _ d.rested (outcome.trans done) rfl rfl rfl rfl (by simp)
      (not_eligible (by simp))
    rw [bytes, own, elem] at wakes
    exact ⟨t, d.rested, replies, rfl, wakes⟩
  refine ⟨fun ready job whole readiness => ?_, fun ready job halting => ?_, fun ready job goOn more inline => ?_,
    fun ready job completes more silent => ?_, fun e job stop step inline present => ?_,
    fun own await under => ⟨fun gap => ?_, fun gap => ?_⟩, fun job halting await limited reached => ?_⟩
  · have own : c.job ≠ .survey := by simp [job]
    by_cases short : ready = false ∧ c.elem.readiness = .stop
    · obtain ⟨rfl, stop⟩ := short
      simp only [stop]
      exact exchanges false (c.told true false data).cut 9 going rfl rfl
        (by simp [Context.exchangeBytes, Context.told, Context.cut, bit, value])
        ((deliver_short data mine own stop).trans (endShort_exchange job))
    · have completes : ready = true ∨ c.elem.readiness = .accept := by
        cases ready with
        | true => exact .inl rfl
        | false => cases kind : c.elem.readiness <;> simp_all
      refine exchanges ready (c.told true ready data) _ going rfl rfl ?_
        ((deliver_completed data mine own completes).trans (completeElement_exchange (c := c.told true ready data) job ready data))
      have bits : bit true + 2 * bit ready + 4 * bit false + 8 * bit c.shortPending =
          if ready = true then 3 else if c.elem.readiness = .stop then 9 else 1 := by
        rw [whole]
        cases ready with
        | true => rfl
        | false => rw [completes.resolve_left (by decide)]; rfl
      rw [← bits]
      rfl
  · exact halts .refused false ready false ready c.readyOn value job halting
      (deliver_refused data mine (by simp [job]) ready)
  · exact offers false ready _ _ (refused_goesOn data mine up job going ready goOn more inline) rfl rfl rfl rfl
      (by simp) fun _ _ => by split <;> exact answers rfl
  · exact ⟨fun inline => offers true ready _ _ (completed_next data mine up job going completes more silent inline) rfl rfl rfl
        rfl (by simp) fun _ _ => answers rfl,
      fun input => leaves true ready _ _ (completed_next_input data mine up job going completes more silent input) rfl rfl rfl
        rfl (by simp) (input_not_eligible input rfl)⟩
  · exact offers true false _ _ (short_next data mine up job going stop step inline) rfl rfl rfl rfl (by simp)
      fun free _ => present.resolve_left (by simp [free])
  · exact leaves true false _ _ ((deliver_await data mine own await).trans
      (awaitReady_gap (c := c.told true false data) going under gap)) rfl rfl rfl rfl (by simp) (not_eligible (by simp))
  · exact offers true false _ _ ((deliver_await data mine own await).trans
      (awaitReady_now (c := c.told true false data) going under gap)) rfl rfl rfl rfl (by simp) fun _ _ => answers rfl
  · exact halts .readyTimeout true false true false true value job halting ((deliver_await data mine (by simp [job]) await).trans
      (awaitReady_timeout (c := c.told true false data) limited reached))

end
end

section
/-! What an accepted REPLY leaves unchanged, what it writes first, and what it makes of a cadence's run (R26, R34, R35, R56, R68,
R73, R76, R96, R98, R99, R103, R105). -/

namespace Sys2Proof.Machine

open Sys2Proof

variable {s u t : State} {i : CtxId} {c : Context} {n : Fin 8} {k : Cadence}

/-! ### What carries over -/

/-- What an operation of a context and the end of its event leave unchanged. -/
theorem Carries.settles (carries : Carries s u) (settles : Settles u t) : Settles s t := by
  obtain ⟨l, issued, ours⟩ := carries.issued
  obtain ⟨m, later, theirs⟩ := settles.issued
  have anchors : ∀ q, u.headerAddr q = s.headerAddr q := by
    intro q; cases q <;> simp only [State.headerAddr, State.anchorAddr, carries.engine]
  exact
    { pending := settles.pending.trans carries.pending
      engine := by rw [← carries.engine]; exact settles.engine
      steps := settles.steps.trans carries.steps
      load := settles.load.trans carries.load
      stats := by rw [← carries.loop]; exact settles.stats
      window := by rw [← carries.engine, ← carries.loop]; exact settles.window
      lineLoss := by rw [← carries.engine, ← carries.loop]; exact settles.lineLoss
      receiver := by rw [← carries.loop]; exact settles.receiver
      stations := settles.stations.trans carries.stations
      attention := settles.attention.trans carries.attention
      episode := settles.episode.trans (congrArg _ carries.notice)
      lock := settles.lock.trans (congrArg _ carries.queues)
      pins := settles.pins.trans carries.pins
      issued := ⟨l ++ m, by rw [later, issued, List.append_assoc], fun x from_either =>
        (List.mem_append.1 from_either).elim (fun mine => .inl (ours x mine)) fun other => by
          rw [← funext anchors]; exact theirs x other⟩
      nextAcc := carries.nextAcc.trans settles.nextAcc }

/-- What a REPLY makes of a station's record: PRESENT, for a probe with its ident word (R73, R76). -/
def Station.replied (job : Job) (ack : Bool) (data : Word) (x : Station) : Station :=
  { x with state := .present, ident := if job = .survey then (if ack = true then data else 0) else x.ident }

theorem replied_own (own : c.job ≠ .survey) (ack : Bool) (data : Word) :
    Station.replied c.job ack data = fun x => { x with state := .present } := by
  funext x
  simp [Station.replied, own]

/-- An accepted REPLY leaves all but contexts, cadences, custody, holds and its station's record (R25, R73, R76). -/
theorem carries_reply (mine : u.ctx i = c) (address : c.job = .survey → c.element = c.elem.station.toNat) (ack ready : Bool)
    (data : Word) : Carries { u with stations := stationsWith u.stations c.elem.station.toNat (Station.replied c.job ack data) }
      (u.deliver i (.reply ack ready data)) := by
  by_cases survey : c.job = .survey
  · have probe : u.deliver i (.reply ack ready data) = u.probeOutcome i (.reply ack ready data) := by
      unfold State.deliver; rw [mine, survey]
    rw [probe]
    simp only [State.probeOutcome, mine, address survey, modStation_eq, survey]
    exact ((Carries.refl _).surveyCount _ _).surveyNext _
  · have own : c.job ≠ .survey := survey
    rw [replied_own own]
    have begins : Carries (u.answered c.elem.station.toNat)
        ((u.answered c.elem.station.toNat).setCtx i (c.told ack ready data)) := (Carries.refl _).setCtx _ _
    cases ack with
    | false => rw [deliver_refused data mine own]; exact begins.stepError _ _ _ _
    | true =>
      by_cases completes : ready = true ∨ c.elem.readiness = .accept
      · rw [deliver_completed data mine own completes]; exact begins.completeElement _ _ _
      · obtain ⟨unready, other⟩ := not_or.1 completes
        obtain rfl : ready = false := by simpa using unready
        cases readiness : c.elem.readiness with
        | accept => exact absurd readiness other
        | stop => rw [deliver_short data mine own readiness]; exact begins.endShort _
        | await => rw [deliver_await data mine own readiness]; exact begins.awaitReady _

/-! ### The first write -/

section
variable (kind : EntryKind) (station : BitVec 6) (element : Nat) (ack ready failed : Bool) (data : Word)

theorem link_boundary : (u.boundary n).link = u.link := by
  unfold State.boundary
  dsimp only
  split
  · split <;> rfl
  · rfl

/-- A cadence's entry is one write at its place in the ring (R98). -/
theorem link_pushEntry (bytes : List Byte) : (u.pushEntry n bytes).link = (u.post (u.cad n).entryAddr bytes).link := by
  unfold State.pushEntry
  dsimp only
  split
  · rw [link_boundary]; rfl
  · rfl

theorem link_writeEntry_cadence (job : c.job = .cadence) :
    ((u.setCtx (contextOf n) c).writeEntry (contextOf n) kind station element ack ready failed data).link =
      (u.issue (.write (u.cad n).entryAddr (c.entry u.engine.timeBase kind station element ack ready failed data))).link := by
  rw [writeEntry_of_cadence _ _ _ _ _ _ _ job, link_pushEntry, post_entry]
  rfl

end

/-- A completed element of a logged step ends behind its DATA entry (R26, R35). -/
theorem deliver_logged {ready : Bool} (data : Word) (mine : u.ctx i = c) (own : c.job ≠ .survey ∧ c.job ≠ .exchange)
    (completes : ready = true ∨ c.elem.readiness = .accept) (logged : c.elem.access.logged = true) :
    u.deliver i (.reply true ready data) = (((u.answered c.elem.station.toNat).setCtx i (c.told true ready data)).writeEntry i
      .data c.elem.station c.element true ready false (c.elem.width.limit data)).endElement i := by
  rw [deliver_completed data mine own.1 completes, completeElement_eq (c := c.told true ready data) own.2,
    if_pos (show (c.told true ready data).elem.access.logged = true from logged)]
  rfl

/-! ### Cadence runs -/

@[simp] theorem ended_job : c.ended.job = c.job := by
  cases input : c.elem.access.isInput <;> simp [Context.ended, input]

@[simp] theorem ended_cancel : c.ended.cancel = c.cancel := by
  cases input : c.elem.access.isInput <;> simp [Context.ended, input]

@[simp] theorem ended_step : c.ended.step = c.step := by
  cases input : c.elem.access.isInput <;> simp [Context.ended, input]

theorem endCancelled_of_cadence (job : c.job = .cadence) : (u.setCtx i c).endCancelled i = (u.setCtx i c).endCadenceRun i := by
  simp [State.endCancelled, job]

section
variable (data : Word) (mine : u.ctx (contextOf n) = c) (job : c.job = .cadence) (going : c.cancel = none)
  (cad : u.cad n = k) (running : k.state = .running)
include mine job going cad running

section
variable {ready : Bool} (completes : ready = true ∨ c.elem.readiness = .accept) (logged : c.elem.access.logged = true)
include completes logged

/-- The last element before END logs its entry, and the run's end returns the cadence to WAITING (R96, R98, R99). -/
theorem completed_endsRun (clear : k.p + 1 ≠ k.nextBoundary ∨ k.outstanding = false) (last : c.remaining ≤ 1)
    (step : fetchStep u.store.steps (c.step + 1) = some .endStep) : ∃ c' : Context, c'.state = .idle ∧
    u.deliver (contextOf n) (.reply true ready data) =
      (((u.answered c.elem.station.toNat).issue (.write k.entryAddr
        (c.entry u.engine.timeBase .data c.elem.station c.element true ready false (c.elem.width.limit data)))).setCad n
        { k.advanced with state := .waiting }).setCtx (contextOf n) c' := by
  have written := writeEntry_cadence (u := u.answered c.elem.station.toNat) (c := c.told true ready data) .data c.elem.station
    c.element true ready false (c.elem.width.limit data) job cad clear
  rw [deliver_logged data mine (by simp [job]) completes logged, written,
    endElement_last (c := (c.told true ready data).wrote) going last, nextStep_eq,
    beginStepAt_end (by simpa [Context.told, Context.wrote] using going)
      (by simpa [Context.told, Context.wrote, State.answered] using step),
    endRun_of_cadence (by simpa [Context.told, Context.wrote] using job),
    endCadenceRun_running (State.cad_setCad_same ..) (by simpa using running), setCad_setCad_same]
  exact ⟨_, rfl, rfl⟩

/-- An entry that reaches a boundary with notice outstanding takes a RUNNING cadence to IDLE, stopped LAGGING (R99, R103,
R105). -/
theorem completed_lags {z : Slot} (crossed : k.p + 1 = k.nextBoundary) (outstanding : k.outstanding = true)
    (slot : u.slot k.startSlot = some z) : ∃ c' : Context, c'.state = .idle ∧
    u.deliver (contextOf n) (.reply true ready data) =
      (((((u.answered c.elem.station.toNat).issue (.write k.entryAddr
        (c.entry u.engine.timeBase .data c.elem.station c.element true ready false (c.elem.width.limit data)))).finished
        k.startSlot z
        { result := 16, stepError := 3, stepIndex := k.programStart.toNat, countA := k.p + 1, countB := k.runsStarted } 0x20
        (le32 k.c ++ le32 k.overlapMisses ++ le32 k.spaceMisses ++ le32 k.runsFailed ++ le32 k.runSequence ++ le32 k.lmax)).dropHold
        (contextOf n)).setCad n
        { k with p := k.p + 1, state := .idle, reason := .lagging, trigger := none, owed := false }).setCtx (contextOf n) c' := by
  have written := writeEntry_lagging (u := u.answered c.elem.station.toNat) (c := c.told true ready data) .data c.elem.station
    c.element true ready false (c.elem.width.limit data) job going cad running crossed outstanding
  rw [deliver_logged data mine (by simp [job]) completes logged, written, endElement_cancelled rfl,
    endCancelled_of_cadence (by simpa [Context.told, Context.wrote] using job),
    endCadenceRun_stopping (u := (u.answered c.elem.station.toNat).issue _)
      (k := { k with p := k.p + 1, state := .stopping, reason := .lagging }) rfl slot]
  exact ⟨_, rfl, rfl⟩

end

omit going in
/-- REFUSED under HALT writes the FAULT entry, counts the failed run, and returns the cadence to WAITING (R34, R96). -/
theorem refused_failsRun (ready : Bool) (halting : c.elem.goOn = false)
    (clear : k.p + 1 ≠ k.nextBoundary ∨ k.outstanding = false) : ∃ c' : Context, c'.state = .idle ∧
    u.deliver (contextOf n) (.reply false ready data) =
      (((u.answered c.elem.station.toNat).issue (.write k.entryAddr
        (c.entry u.engine.timeBase .fault c.elem.station c.element false false true 1))).setCad n
        { k.advanced with state := .waiting, runsFailed := satInc k.runsFailed }).setCtx (contextOf n) c' := by
  obtain ⟨c', idle, halted⟩ := halt_cadence (u := u.answered c.elem.station.toNat) (c := c.told false ready data) .refused job cad
    running clear
  refine ⟨c', idle, ?_⟩
  rw [deliver_refused data mine (by simp [job]), stepError_halts (c := c.told false ready data) _ _ _ (.inr halting)]
  exact halted

end

end Sys2Proof.Machine

section
open Sys2Proof Sys2Proof.Machine

/-- Settles O51: what carries over through the context's operation and the end of the event, the first write, and the runs of a
cadence that the REPLY ends. -/
theorem replyIsCountedAndLogged : Obligations.ReplyIsCountedAndLogged := by
  intro s r rest i ack ready data live state window owner address c heard entry place completed
  have mine : (s.heardReply rest).ctx i = c := rfl
  have heard_eq : heard = { s.heardReply rest with
      stations := stationsWith s.stations c.elem.station.toNat (Station.replied c.job ack data) } := by
    simp only [heard, modStation_eq]; rfl
  have run : exec (.replyArrival r.sequence r.frame.station ack ready data) s =
      .next (((s.heardReply rest).deliver i (.reply ack ready data)).settle s) :=
    (congrArg Host.Outcome.next (event_eq live _)).trans
      (by rw [framed_replyArrives window (by rcases state with e | e <;> simp [LoopState.matches, e]), owner]; rfl)
  rw [show s.ctx i = c from rfl] at address
  have writes : place = Cadence.entryAddr := rfl
  clear_value heard c place
  subst heard_eq writes
  have carries := carries_reply mine address ack ready data
  have settles := carries.settles (Settles.settle _ s)
  have logs : ∀ (v : State) (w : Issue), (s.heardReply rest).deliver i (.reply ack ready data) = v.endElement i →
      v.link.issued = s.link.issued ++ [w] → ∃ l,
        (((s.heardReply rest).deliver i (.reply ack ready data)).settle s).link.issued = s.link.issued ++ w :: l := by
    intro v w ends first
    obtain ⟨l, later, -⟩ := (((Carries.refl v).endElement i).settles (Settles.settle _ s)).issued
    exact ⟨l, by rw [ends, later, first, List.append_assoc]; rfl⟩
  refine ⟨_, run, settles, ?_, fun working => settles.window working state, fun done job => ?_, fun n job number => ?_⟩
  · exact settles.lineLoss.elim id And.right
  · obtain ⟨rfl, readiness, logged⟩ := done
    refine logs _ _ (deliver_logged data mine (by simp [job]) readiness logged) ?_
    rw [writeEntry_run (c := c.told true ready data) _ _ _ _ _ _ _ job]
    rfl
  · obtain rfl := eq_contextOf number
    intro k moved quiet
    have own : c.job ≠ .survey := by simp [job]
    rw [replied_own own]
    have leaves : ∀ u c', quiet → (s.heardReply rest).deliver (contextOf n) (.reply ack ready data) = u →
        u.contexts = s.contexts.set n.val c' → u.loop = (s.heardReply rest).loop → u.store.load = s.store.load →
        u.intake.pendingList = s.intake.pendingList → c'.state = .idle →
        Wakes u (((s.heardReply rest).deliver (contextOf n) (.reply ack ready data)).settle s) := by
      rintro u c' ⟨opened, released, empty, -, busy⟩ outcome contexts loop load pending idle
      rw [outcome]
      exact .settle_opened_silent (i := contextOf n) s opened busy released (pending.trans empty) contexts ⟨_, _, loop⟩ load
        (by rw [idle]; decide) (not_eligible (by rw [idle]; decide))
    have going : quiet → c.cancel = none := fun ⟨_, _, _, going, _⟩ => going
    have cad : (s.heardReply rest).cad n = k := rfl
    clear_value k
    refine ⟨fun done => ?_, fun still done running clear last step => ?_, fun z still done running crossed outstanding slot => ?_,
      fun still refused halting running clear => ?_⟩
    · obtain ⟨rfl, readiness, logged⟩ := done
      refine logs _ _ (deliver_logged data mine (by simp [job]) readiness logged) ?_
      rw [link_writeEntry_cadence (c := c.told true ready data) _ _ _ _ _ _ _ job]
      exact congrArg (fun k : Cadence => s.link.issued ++ [Issue.write k.entryAddr _]) cad
    · obtain ⟨rfl, readiness, logged⟩ := done
      obtain ⟨c', idle, ends⟩ := completed_endsRun data mine job (going still) cad running readiness logged clear last step
      exact ⟨c', idle, leaves _ c' still ends rfl rfl rfl rfl idle⟩
    · obtain ⟨rfl, readiness, logged⟩ := done
      obtain ⟨c', idle, ends⟩ := completed_lags data mine job (going still) cad running readiness logged crossed outstanding slot
      exact ⟨c', idle, leaves _ c' still ends rfl rfl rfl rfl idle⟩
    · subst refused
      obtain ⟨c', idle, ends⟩ := refused_failsRun data mine job cad running ready halting clear
      exact ⟨c', idle, leaves _ c' still ends rfl rfl rfl rfl idle⟩

end
end

section
/-! The in-flight window and the guard count (R48, R52, R82): what each operation does to the Loop Port keeps the form of both. -/

namespace Sys2Proof.Machine

open Sys2Proof

/-- A change from `s` to `t` that keeps the form of the in-flight window, and the guard count within its limit. -/
structure WindowKept (s t : State) : Prop where
  window : s.loop.windowOk = true → t.loop.windowOk = true
  guard : s.loop.guardOk = true → t.loop.guardOk = true

/-! ### The form of the window -/

section
variable {l m : LoopPort} {r : InFlight} {rest : List InFlight}

theorem windowOk_of_empty (empty : l.window = []) : l.windowOk = true := by
  unfold LoopPort.windowOk
  rw [empty]
  cases l.state <;> rfl

/-- In OPEN and DRAINING: consecutive records of contexts, at most four (R48). -/
theorem windowOk_iff_of_contexts (state : l.state = .opened ∨ l.state = .draining) : l.windowOk = true ↔
    consecutive l.window l.sequence = true ∧ l.window.length ≤ 4 ∧ l.window.all InFlight.ofContext = true := by
  rcases state with e | e <;> simp [LoopPort.windowOk, e]

/-- In SWITCHING: at most one record, the RECONFIGURE's (R82). -/
theorem windowOk_iff_of_switching (state : l.state = .switching) : l.windowOk = true ↔
    consecutive l.window l.sequence = true ∧ l.window.length ≤ 1 ∧ (l.window.all fun r => !r.ofContext) = true := by
  simp [LoopPort.windowOk, state]

/-- Where the loop does not match arrivals the window is empty (R60, R62). -/
theorem windowOk_iff_of_unmatched (state : l.state.matches = false) : l.windowOk = true ↔ l.window = [] := by
  refine ⟨fun ok => ?_, windowOk_of_empty⟩
  unfold LoopPort.windowOk at ok
  revert ok state
  cases l.state <;> simp [LoopState.matches]

/-- The form of a window is that of its sequence numbers and its owners. -/
theorem windowOk_map (f : InFlight → InFlight) (sequence : ∀ r, (f r).sequence = r.sequence)
    (owner : ∀ r, (f r).owner = r.owner) (state : m.state = l.state) (counter : m.sequence = l.sequence)
    (window : m.window = l.window.map f) : m.windowOk = l.windowOk := by
  have same : ∀ w : List InFlight, consecutive (w.map f) l.sequence = consecutive w l.sequence := fun w => by
    induction w with
    | nil => rfl
    | cons r w ih => simp only [List.map_cons, consecutive, sequence, ih, List.length_map]
  have kind : ∀ r, (f r).ofContext = r.ofContext := fun r => by simp only [InFlight.ofContext, owner]
  simp only [LoopPort.windowOk, window, counter, state, same, List.length_map, List.all_map, Function.comp_def, kind,
    List.isEmpty_map]

theorem windowOk_congr (state : m.state = l.state) (window : m.window = l.window) (counter : m.sequence = l.sequence) :
    m.windowOk = l.windowOk :=
  windowOk_map id (fun _ => rfl) (fun _ => rfl) state counter (by simp [window])

theorem LoopState.window_kinds (x : LoopState) : (x = .opened ∨ x = .draining) ∨ x = .switching ∨ x.matches = false := by
  cases x <;> simp [LoopState.matches]

/-- Without its oldest record a window keeps its form (R56). -/
theorem windowOk_tail (ok : l.windowOk = true) (state : m.state = l.state) (counter : m.sequence = l.sequence)
    (window : m.window = l.window.tail) : m.windowOk = true := by
  have numbers : consecutive l.window l.sequence = true → consecutive m.window m.sequence = true := by
    rw [window, counter]
    cases l.window with
    | nil => exact id
    | cons r rest => simp +contextual [consecutive]
  have shorter : m.window.length ≤ l.window.length := by rw [window, List.length_tail]; omega
  have within : ∀ f : InFlight → Bool, l.window.all f = true → m.window.all f = true := fun f all => by
    rw [List.all_eq_true] at all ⊢
    exact fun r mem => all r (List.mem_of_mem_tail (window ▸ mem))
  rcases l.state.window_kinds with contexts | switching | unmatched
  · obtain ⟨order, size, owners⟩ := (windowOk_iff_of_contexts contexts).1 ok
    exact (windowOk_iff_of_contexts (state ▸ contexts)).2 ⟨numbers order, shorter.trans size, within _ owners⟩
  · obtain ⟨order, size, owners⟩ := (windowOk_iff_of_switching switching).1 ok
    exact (windowOk_iff_of_switching (state ▸ switching)).2 ⟨numbers order, shorter.trans size, within _ owners⟩
  · exact windowOk_of_empty (by rw [window, (windowOk_iff_of_unmatched unmatched).1 ok]; rfl)

/-- A record of the RECONFIGURE stands alone in its window (R82). -/
theorem windowOk_reconfigure (ok : l.windowOk = true) (window : l.window = r :: rest) (owner : r.owner = .reconfigure) :
    rest = [] := by
  have other : r.ofContext = false := by simp [InFlight.ofContext, owner]
  unfold LoopPort.windowOk at ok
  rw [window] at ok
  revert ok
  cases l.state <;> simp +contextual [other]

/-- A record appended under the counter's value continues the sequence (R48). -/
theorem consecutive_append (w : List InFlight) (counter : BitVec 3) (new : InFlight) (number : new.sequence = counter)
    (ok : consecutive w counter = true) : consecutive (w ++ [new]) (counter + 1) = true := by
  induction w with
  | nil => simp [consecutive, number]
  | cons r w ih =>
    simp only [List.cons_append, consecutive, Bool.and_eq_true, beq_iff_eq, List.length_append, List.length_singleton] at ok ⊢
    obtain ⟨first, later⟩ := ok
    refine ⟨?_, ih later⟩
    rw [first, BitVec.ofNat_add (w.length + 1)]
    bv_omega

theorem guardOk_iff : l.guardOk = true ↔ l.guard ≤ 8 := by simp [LoopPort.guardOk]

end

/-! ### Changes that keep both -/

namespace WindowKept

variable {s t u : State}

theorem refl (s : State) : WindowKept s s := ⟨id, id⟩

theorem of_eq (same : t.loop = s.loop) : WindowKept s t := ⟨fun ok => same ▸ ok, fun ok => same ▸ ok⟩

theorem trans (first : WindowKept s t) (second : WindowKept t u) : WindowKept s u :=
  ⟨second.window ∘ first.window, second.guard ∘ first.guard⟩

theorem of_guard (guard : t.loop.guard = s.loop.guard) (window : s.loop.windowOk = true → t.loop.windowOk = true) :
    WindowKept s t :=
  ⟨window, fun ok => guardOk_iff.2 (guard ▸ guardOk_iff.1 ok)⟩

/-- A change of what neither form speaks of. -/
theorem of_same (state : t.loop.state = s.loop.state) (window : t.loop.window = s.loop.window)
    (counter : t.loop.sequence = s.loop.sequence) (guard : t.loop.guard = s.loop.guard) : WindowKept s t :=
  of_guard guard fun ok => by rwa [windowOk_congr state window counter]

/-- A change that leaves the window empty. -/
theorem of_empty (window : t.loop.window = []) (guard : t.loop.guard = s.loop.guard) : WindowKept s t :=
  of_guard guard fun _ => windowOk_of_empty window

/-- A change of the loop state from one in which the window is empty. -/
theorem of_unmatched (state : s.loop.state.matches = false) (window : t.loop.window = s.loop.window)
    (guard : t.loop.guard = s.loop.guard) : WindowKept s t :=
  of_guard guard fun ok => windowOk_of_empty (window.trans ((windowOk_iff_of_unmatched state).1 ok))

/-- A change followed by one that keeps both, named last first. -/
theorem after (second : WindowKept t u) (first : WindowKept s t) : WindowKept s u := first.trans second

/-- A change that both branches of a test make. -/
theorem ite {p : Prop} [Decidable p] (first : WindowKept s t) (second : WindowKept s u) :
    WindowKept s (if p then t else u) := by
  split
  · exact first
  · exact second

/-- The steps of a fold that each keep both keep them together. -/
theorem foldl {α : Type} {f : State → α → State} (each : ∀ s a, WindowKept s (f s a)) (s : State) (l : List α) :
    WindowKept s (l.foldl f s) := by
  induction l generalizing s with
  | nil => exact refl s
  | cons a l ih => exact (each s a).trans (ih _)

end WindowKept

variable (s : State)

theorem Carries.keeps {s t : State} (carries : Carries s t) : WindowKept s t := .of_eq carries.loop

/-- The end of an event at Intake keeps both, the end of a QUIESCE with an empty window among it (R67). -/
theorem Wakes.keeps {s t : State} (wakes : Wakes s t) : WindowKept s t := by
  rcases wakes.loop with same | ⟨-, stopped⟩
  · exact .of_eq same
  · exact .of_empty (by rw [stopped]; rfl) (by rw [stopped]; rfl)

theorem keeps_settleIntake (before : State) : WindowKept s (s.settleIntake before) := (Wakes.settleIntake s before).keeps

/-- Entry to FAULTED empties the window (R46). -/
theorem keeps_raise (f : PendingFault) : WindowKept s (s.raise f) := by
  unfold State.raise
  split
  · rw [setCause_eq]; exact .of_empty rfl rfl
  · exact .refl _

/-! ### Frames handed to their owners -/

theorem loop_modStation (a : Nat) (f : Station → Station) : (s.modStation a f).loop = s.loop := by rw [modStation_eq]

/-- What a context does with its frame's outcome leaves the Loop Port (R25). -/
theorem loop_deliver (i : CtxId) (o : FrameOutcome) : (s.deliver i o).loop = s.loop := by
  have stations : ∀ (a : Nat) (f : Station → Station) (u : State), Carries (s.modStation a f) u → u.loop = s.loop :=
    fun a f u carries => carries.loop.trans (loop_modStation s a f)
  unfold State.deliver
  split
  · unfold State.probeOutcome
    dsimp only
    split
    · exact stations _ _ _ (((Carries.refl _).surveyCount _ _).surveyNext _)
    · exact stations _ _ _ (((Carries.refl _).surveyCount _ _).surveyNext _)
    · split
      · exact ((Carries.refl s).endCancelled _).loop
      · split
        · rfl
        · exact ((((Carries.refl s).setCtx _ _).surveyCount _ _).surveyNext _).loop
    · split
      · exact ((Carries.refl s).endCancelled _).loop
      · exact ((Carries.refl s).halt _ _).loop
  · unfold State.elementOutcome
    dsimp only
    split
    · have told := fun c => (Carries.refl (s.modStation (s.ctx i).elem.station.toNat fun x => { x with state := .present })).setCtx i c
      split
      · exact stations _ _ _ ((told _).stepError _ _ _ _)
      · split
        · exact stations _ _ _ ((told _).completeElement _ _ _)
        · split
          · exact stations _ _ _ ((told _).completeElement _ _ _)
          · exact stations _ _ _ ((told _).endShort _)
          · exact stations _ _ _ ((told _).awaitReady _)
    · exact stations _ _ _ ((Carries.refl _).stepError _ _ _ _)
    · split
      · exact ((Carries.refl s).endCancelled _).loop
      · split
        · rfl
        · exact ((Carries.refl s).stepError _ _ _ _).loop
    · split
      · exact ((Carries.refl s).endCancelled _).loop
      · exact ((Carries.refl s).stepError _ _ _ _).loop

/-- The RECONFIGURE's walk sends nothing itself. -/
theorem window_switchWalk (n a : Nat) (r : Reconfigure) :
    (switchWalk n a r s).loop.window = s.loop.window ∧ (switchWalk n a r s).loop.guard = s.loop.guard := by
  induction n generalizing a r with
  | zero => exact ⟨rfl, rfl⟩
  | succ n ih =>
    unfold switchWalk
    split
    · exact ih _ _
    · split
      · exact ⟨rfl, rfl⟩
      · exact ih _ _

theorem window_switchDecided (r : Reconfigure) (o : Outcome40) (st : Option StationState) :
    (s.switchDecided r o st).loop.window = s.loop.window ∧ (s.switchDecided r o st).loop.guard = s.loop.guard := by
  have walks := fun u : State => window_switchWalk u (40 - r.current) (r.current + 1) (r.setOutcome r.current o)
  unfold State.switchDecided State.switchNext
  cases st with
  | none => exact walks s
  | some st =>
    rw [← loop_modStation s r.current fun x => { x with state := st }]
    exact walks _

theorem window_switchOutcome (o : FrameOutcome) :
    (s.switchOutcome o).loop.window = s.loop.window ∧ (s.switchOutcome o).loop.guard = s.loop.guard := by
  unfold State.switchOutcome
  split
  · dsimp only
    split
    · split
      · exact window_switchDecided ..
      · split <;> exact window_switchDecided ..
    · exact window_switchDecided ..
    · split
      · exact ⟨rfl, rfl⟩
      · exact window_switchDecided ..
    · exact ⟨rfl, rfl⟩
  · exact ⟨rfl, rfl⟩

/-- An abandoned frame leaves the Loop Port, whoever it was granted to (R60). -/
theorem loop_hand_abandoned (w : Owner) : (s.hand w .abandoned).loop = s.loop := by
  cases w with
  | context i => exact loop_deliver s i .abandoned
  | reconfigure =>
    show (s.switchOutcome .abandoned).loop = s.loop
    unfold State.switchOutcome
    split <;> rfl

/-- The oldest record leaves the window and its owner takes the outcome: a context leaves the rest as it is, and the
RECONFIGURE's record was the only one (R56, R82, R83). -/
theorem keeps_hand_oldest {u : State} {r : InFlight} {rest : List InFlight} (window : s.loop.window = r :: rest) (o : FrameOutcome)
    (left : u.loop.window = rest) (state : u.loop.state = s.loop.state) (counter : u.loop.sequence = s.loop.sequence)
    (guard : u.loop.guard = s.loop.guard) : WindowKept s (u.hand r.owner o) := by
  cases owner : r.owner with
  | context i =>
    have same : (u.hand (.context i) o).loop = u.loop := loop_deliver u i o
    exact .of_guard (by rw [same]; exact guard) fun ok => by
      rw [same]; exact windowOk_tail ok state counter (by rw [left, window]; rfl)
  | reconfigure =>
    obtain ⟨stands, bound⟩ := window_switchOutcome u o
    exact .of_guard (bound.trans guard) fun ok =>
      windowOk_of_empty (stands.trans (left.trans (windowOk_reconfigure ok window owner)))

/-! ### Lost order (R57 to R60, R84) -/

theorem keeps_enterQuiet : WindowKept s s.enterQuiet :=
  (WindowKept.foldl (fun s (r : InFlight) => .of_eq (loop_hand_abandoned s r.owner)) _ s.loop.window).after
    (.of_empty rfl rfl)

theorem keeps_lostOrder : WindowKept s s.lostOrder := by
  unfold State.lostOrder
  split
  · exact keeps_enterQuiet s
  · exact keeps_enterQuiet s
  · unfold State.switchTimeout
    split
    · exact .of_empty rfl rfl
    · exact .refl _
  · exact .refl _

theorem keeps_sequenceFault : WindowKept s s.sequenceFault :=
  .ite ((keeps_lostOrder _).after (.of_same rfl rfl rfl rfl)) (.refl _)

theorem keeps_lineLost : WindowKept s s.lineLost :=
  .ite (.refl _) ((keeps_lostOrder _).after (.of_same rfl rfl rfl rfl))

theorem keeps_deadlineExpires : WindowKept s s.deadlineExpires :=
  .ite ((keeps_lostOrder _).after (.of_same rfl rfl rfl rfl)) (.refl _)

/-! ### Arrivals (R54 to R57, R62) -/

theorem keeps_framed : WindowKept s s.framed := .of_same rfl rfl rfl rfl

theorem keeps_replyArrives (q : BitVec 3) (st : BitVec 6) (a r : Bool) (d : Word) :
    WindowKept s (s.replyArrives q st a r d) := by
  unfold State.replyArrives
  split
  · rename_i r rest window
    exact .ite (keeps_hand_oldest s window _ (by simp [window]) rfl rfl rfl) (keeps_sequenceFault s)
  · exact keeps_sequenceFault s

theorem keeps_frameReturns (f : LoopFrame) : WindowKept s (s.frameReturns f) := by
  unfold State.frameReturns
  split
  · rename_i r rest window
    exact .ite (keeps_hand_oldest s window _ (by simp [window]) rfl rfl rfl) (keeps_sequenceFault s)
  · exact keeps_sequenceFault s

theorem keeps_badCheck : WindowKept s s.badCheck := by
  have counted : WindowKept s s.countCheck := .of_same rfl rfl rfl rfl
  unfold State.badCheck
  refine .ite ?_ (.ite counted (.refl _))
  split
  · rename_i r rest window
    exact keeps_hand_oldest s window _ (by simp [window, State.countCheck]) rfl rfl rfl
  · exact counted

theorem keeps_completeOp (r : Result) : WindowKept s (s.completeOp r) := by
  have cleared : WindowKept s (s.setLoop fun l => { l with op := none }) := .of_same rfl rfl rfl rfl
  unfold State.completeOp
  dsimp only
  split
  · exact .refl _
  · exact cleared.trans ((Carries.refl _).finish _ _ _ _).keeps
  · exact cleared.trans ((Carries.refl _).finish _ _ _ _).keeps

/-- SYNCING, in which the window is empty, is left for OPEN or DOWN (R63, R64). -/
theorem keeps_endSyncing (state : s.loop.state = .syncing) (next : LoopState) :
    WindowKept s (s.setLoop fun l => l.endSyncing next) :=
  .of_unmatched (by rw [state]; rfl) rfl rfl

theorem keeps_syncArrives (p : Word) : WindowKept s (s.syncArrives p) := by
  unfold State.syncArrives
  split
  · rename_i waits
    exact .ite ((keeps_endSyncing s waits.1 .opened).trans (keeps_completeOp _ _)) (.refl _)
  · exact keeps_sequenceFault s

/-! ### Timers (R61, R62, R64, R85) -/

theorem keeps_enterSyncing : WindowKept s s.enterSyncing := .of_empty rfl rfl

theorem keeps_tellDown (o : Option CtxId) : WindowKept s (s.tellDown o) := by
  cases o with
  | none => exact keeps_completeOp s _
  | some i => exact ((Carries.refl s).stepError i .loopDown false false).keeps

theorem keeps_syncExpires : WindowKept s s.syncExpires := by
  unfold State.syncExpires
  split
  · rename_i waits
    refine .ite (.of_same rfl rfl rfl rfl) ?_
    rw [enterDown_eq]
    exact (keeps_endSyncing s waits.1 .down).trans 
      ((WindowKept.foldl keeps_tellDown (s.downed.chose s.downed.downTold) _).after (.of_same rfl rfl rfl rfl))
  · exact .refl _

theorem keeps_syncQuietExpires : WindowKept s s.syncQuietExpires := .ite (.of_same rfl rfl rfl rfl) (.refl _)

theorem keeps_settleEnds : WindowKept s s.settleEnds := .ite (keeps_enterSyncing s) (.refl _)

theorem window_enterSwitching :
    s.enterSwitching.loop.window = s.loop.window ∧ s.enterSwitching.loop.guard = s.loop.guard := by
  unfold State.enterSwitching
  dsimp only
  split
  · exact window_switchWalk (s.setLoop fun l => { l with state := .switching }) _ _ _
  · exact ⟨rfl, rfl⟩

theorem keeps_quietExpires : WindowKept s s.quietExpires := by
  unfold State.quietExpires
  split
  · rename_i quiet
    unfold State.quietEnds
    dsimp only
    split
    · exact .of_empty rfl rfl
    · obtain ⟨stands, bound⟩ := window_enterSwitching (s.setLoop fun l => { l with quietTimer := none, afterQuiet := .syncing })
      exact .of_unmatched (by rw [quiet.1]; rfl) stands bound
  · exact .refl _

/-- The end of a transmission times records, and changes neither their numbers nor their owners (R48). -/
theorem keeps_transmitEnd : WindowKept s s.transmitEnd := by
  refine .ite (.of_guard rfl (Eq.trans ?_)) (.refl _)
  exact windowOk_map (l := s.loop) (fun r => if r.sendTime.isNone then
      { r with sendTime := some s.engine.timeBase,
               deadline := some (s.engine.timeBase + BitVec.ofNat 32 s.engine.config.replyTimeout) } else r)
    (fun r => by split <;> rfl) (fun r => by split <;> rfl) rfl rfl rfl

/-! ### Grants (R48, R50 to R52) -/

theorem cadenceOf_none {i : CtxId} (request : i = ctxA ∨ i = ctxB) : cadenceOf i = none := by
  rcases request with rfl | rfl <;> rfl

theorem pickRequest_request {i : CtxId} (pick : s.pickRequest = some i) : i = ctxA ∨ i = ctxB := by
  unfold State.pickRequest at pick
  dsimp only at pick
  split at pick
  · cases pick
    exact ite_eq_or_eq ..
  · split at pick
    · cases pick; exact .inl rfl
    · split at pick
      · cases pick; exact .inr rfl
      · cases pick

/-- A cadence context is picked past a request context only below the limit of the guard count (R52). -/
theorem guard_of_cadence {i : CtxId} {n : Fin 8} (pick : s.pick = some i) (cadence : cadenceOf i = some n)
    (passed : s.pickRequest.isSome = true) : s.loop.guard < 8 := by
  by_contra limit
  obtain ⟨j, request⟩ := Option.isSome_iff_exists.1 passed
  have other : s.pick = some j := by
    unfold State.pick
    rw [if_pos (show Config.guardLimit ≤ s.loop.guard by simpa using limit), request]
    rfl
  obtain rfl : j = i := Option.some.inj (other.symm.trans pick)
  rw [cadenceOf_none (pickRequest_request s request)] at cadence
  cases cadence

/-- A noted grant leaves the guard count within its limit (R52). -/
theorem keeps_noteGrant {i : CtxId} (pick : s.pick = some i) : WindowKept s (s.noteGrant i) := by
  unfold State.noteGrant
  split
  · rename_i n cadence
    refine ⟨(windowOk_congr rfl rfl rfl).trans, fun _ => guardOk_iff.2 ?_⟩
    show (if s.pickRequest.isSome = true then s.loop.guard + 1 else 0) ≤ 8
    split
    · rename_i passed
      exact guard_of_cadence s pick cadence passed
    · omega
  · exact ⟨(windowOk_congr rfl rfl rfl).trans, fun _ => guardOk_iff.2 (Nat.zero_le 8)⟩

theorem noteGrant_canGrant (i : CtxId) : (s.noteGrant i).canGrant = s.canGrant := by
  unfold State.noteGrant
  split <;> rfl

/-- A COMMAND that is sent takes the next place of the window (R48, R50). -/
theorem keeps_sendCommand (can : s.canGrant = true) (i : CtxId) : WindowKept s (s.sendCommand i) := by
  simp only [State.canGrant, Bool.and_eq_true, beq_iff_eq, decide_eq_true_eq] at can
  obtain ⟨⟨opened, place⟩, -⟩ := can
  refine .of_guard rfl fun ok => ?_
  obtain ⟨numbers, -, contexts⟩ := (windowOk_iff_of_contexts (.inl opened)).1 ok
  refine (windowOk_iff_of_contexts (l := (s.sendCommand i).loop) (.inl opened)).2
    ⟨consecutive_append s.loop.window s.loop.sequence _ rfl numbers, ?_, ?_⟩
  · show (s.loop.window ++ [_]).length ≤ 4
    simp only [List.length_append, List.length_singleton]
    exact place
  · show (s.loop.window ++ [_]).all InFlight.ofContext = true
    simp only [List.all_append, contexts]
    rfl

theorem keeps_grant {t : State} (grants : s.grant = some t) : WindowKept s t := by
  unfold State.grant at grants
  split at grants
  · rename_i can
    split at grants
    · rename_i i pick
      have noted := keeps_noteGrant s pick
      dsimp only at grants
      split at grants <;> cases grants
      · exact noted.trans ((Carries.refl _).lapse i).keeps
      · exact noted.trans (keeps_sendCommand _ ((noteGrant_canGrant s i).trans can) i)
    · cases grants
  · cases grants

/-! ### The end of an event -/

/-- A SYNC frame has no record, and a SWITCH stands as the only one (R62, R82). -/
theorem keeps_sendOwn : WindowKept s s.sendOwn := by
  unfold State.sendOwn
  dsimp only
  split
  · exact .of_same rfl rfl rfl rfl
  · rename_i switching _
    refine .of_guard rfl fun _ => (windowOk_iff_of_switching ?_).2 ⟨consecutive_append [] s.loop.sequence _ rfl rfl, Nat.le_refl 1, rfl⟩
    exact switching
  · exact .of_same rfl rfl rfl rfl

theorem carries_startHead (i : CtxId) : (s.startHead i).loop = s.loop := by
  unfold State.startHead
  split
  · rfl
  · exact ((Carries.refl (s.setIntake _)).startRequest _ _).loop

theorem loop_startPending {t : State} (starts : s.startPending = some t) : t.loop = s.loop := by
  unfold State.startPending at starts
  split at starts
  · cases starts
  · split at starts
    · split at starts
      · cases starts; rw [carries_startHead, carries_startHead]
      · split at starts <;> cases starts; exact carries_startHead ..
    · split at starts
      · split at starts <;> cases starts; exact carries_startHead ..
      · cases starts

theorem loop_releaseCtx (i : CtxId) : (s.releaseCtx i).loop = s.loop := by
  unfold State.releaseCtx
  split
  · exact ((Carries.refl s).runPrepass _).loop
  · exact ((Carries.refl s).surveyStart _).loop
  · rfl

theorem keeps_turn {t : State} (turns : s.turn = some t) : WindowKept s t := by
  unfold State.turn at turns
  split at turns
  · cases turns; exact .of_eq (loop_releaseCtx (s.chose _) _)
  · split at turns
    · rename_i starts; cases turns; exact .of_eq (loop_startPending s starts)
    · split at turns
      · rename_i drained
        cases turns
        obtain ⟨stands, bound⟩ := window_enterSwitching s
        exact .of_empty (stands.trans drained.2) bound
      · split at turns
        · cases turns; exact keeps_sendOwn s
        · exact keeps_grant s turns

theorem keeps_progress (n : Nat) : WindowKept s (progress n s) := by
  induction n generalizing s with
  | zero => exact .refl _
  | succ n ih =>
    unfold progress
    split
    · rename_i t turns; exact (keeps_turn s turns).trans (ih t)
    · exact .refl _

theorem keeps_settle (before : State) : WindowKept s (s.settle before) := by
  refine .ite (.trans (keeps_progress s Config.eventBound) (.trans (.of_eq ?_) (keeps_settleIntake _ before))) (.refl _)
  obtain ⟨custody, choices, same, -⟩ := reorderMarks_eq (progress Config.eventBound s) s before
  rw [same]

/-! ### Requests (R144 to R150) -/

theorem loop_setSlotState (i : Fin 40) (st : SlotState) : (s.setSlotState i st).loop = s.loop :=
  ((Carries.refl s).setSlotState i st).loop

theorem loop_keepRecord (i : Fin 40) (r : Record) : (s.keepRecord i r).loop = s.loop := by
  unfold State.keepRecord
  split <;> rfl

theorem loop_finish (i : Fin 40) (d : DoneRecord) (o : Nat) (b : List Byte) : (s.finish i d o b).loop = s.loop :=
  ((Carries.refl s).finish i d o b).loop

theorem keeps_refuse (i : Fin 40) (r : Result) : WindowKept s (s.refuse i r) := ((Carries.refl s).refuse i r).keeps

/-- A change that leaves the Loop Port, with a frame finished behind it. -/
theorem keeps_finish {u : State} (same : u.loop = s.loop) (i : Fin 40) (d : DoneRecord) (o : Nat) (b : List Byte) :
    WindowKept s (u.finish i d o b) := .of_eq ((loop_finish u i d o b).trans same)

theorem loop_post (a : Addr) (b : List Byte) : (s.post a b).loop = s.loop := ((Carries.refl s).post a b).loop

theorem keeps_doLoad (i : Fin 40) (b : Body) : WindowKept s (s.doLoad i b) := by
  refine .ite (keeps_refuse ..) (.ite (keeps_refuse ..) ?_)
  split
  · exact keeps_finish s rfl ..
  · exact .of_eq rfl

theorem keeps_routeOrQuiesce (i : Fin 40) : WindowKept s (s.routeOrQuiesce i) :=
  .ite (keeps_refuse ..) <| .ite ((Carries.refl s).startRequest _ i).keeps <|
    .ite ((Carries.refl s).startRequest _ i).keeps (.of_eq (loop_setSlotState s i .pending))

theorem keeps_doRun (i : Fin 40) (b : Body) : WindowKept s (s.doRun i b) :=
  .ite (keeps_refuse ..) (.ite (keeps_refuse ..) (keeps_routeOrQuiesce ..))

theorem keeps_doExchange (i : Fin 40) (b : Body) : WindowKept s (s.doExchange i b) := by
  unfold State.doExchange
  split
  · exact keeps_finish s rfl ..
  · exact keeps_routeOrQuiesce ..

theorem keeps_doSurvey (i : Fin 40) (b : Body) : WindowKept s (s.doSurvey i b) :=
  .ite (keeps_refuse ..) (.ite (keeps_refuse ..) (.ite (keeps_refuse ..) (keeps_routeOrQuiesce ..)))

theorem keeps_acceptStart (i : Fin 40) (n : Fin 8) (b : Body) (last lmax : Nat) :
    WindowKept s (s.acceptStart i n b last lmax) :=
  have accepted := (((Carries.refl s).placeHold (contextOf n) { first := (u16 b 0x18).toNat, last }).setCad n
    (Cadence.start i b lmax)).setSlotState i .cadence
  .ite (accepted.triggerExpires n).keeps accepted.keeps

theorem keeps_doStart (i : Fin 40) (b : Body) : WindowKept s (s.doStart i b) := by
  refine .ite (keeps_refuse ..) (.ite (keeps_refuse ..) (.ite (keeps_refuse ..) ?_))
  dsimp only
  split
  · exact keeps_finish s rfl ..
  · exact keeps_acceptStart ..
  · exact .refl _

theorem keeps_doStop (i : Fin 40) (b : Body) : WindowKept s (s.doStop i b) :=
  .ite (keeps_refuse ..) <| .ite (keeps_refuse ..) <| keeps_finish s ((Carries.refl s).cadenceStop _ _).loop ..

theorem keeps_doRelease (i : Fin 40) (b : Body) : WindowKept s (s.doRelease i b) :=
  .ite (keeps_refuse ..) <| .ite (keeps_refuse ..) <| .ite (keeps_finish s rfl ..) (keeps_finish s (by rfl) ..)

theorem keeps_decideOp (i : Fin 40) (r : Option Result) {accept : State → State}
    (accepts : r = none → WindowKept s (accept s)) : WindowKept s (s.decideOp i r accept) := by
  unfold State.decideOp
  split
  · exact keeps_refuse ..
  · exact .ite (keeps_refuse ..) (accepts rfl)

theorem opened_of_reconfigureRefusal (accepted : s.reconfigureRefusal = none) : s.loop.state = .opened := by
  unfold State.reconfigureRefusal at accepted
  split at accepted
  · cases accepted
  · split at accepted
    · assumption
    · cases accepted
    · cases accepted

/-- DRAINING begins with the window of OPEN (R81). -/
theorem keeps_doReconfigure (i : Fin 40) (b : Body) : WindowKept s (s.doReconfigure i b) := by
  refine .ite (keeps_refuse ..) (keeps_decideOp s i _ fun accepted => ?_)
  have opened := opened_of_reconfigureRefusal s accepted
  have slot := loop_setSlotState s i .loopOp
  refine .of_guard (congrArg LoopPort.guard slot :) fun ok => (windowOk_iff_of_contexts (.inr rfl)).2 ?_
  show consecutive (s.setSlotState i .loopOp).loop.window (s.setSlotState i .loopOp).loop.sequence = true ∧
    (s.setSlotState i .loopOp).loop.window.length ≤ 4 ∧ (s.setSlotState i .loopOp).loop.window.all InFlight.ofContext = true
  rw [slot]
  exact (windowOk_iff_of_contexts (.inl opened)).1 ok

theorem keeps_doRestart (i : Fin 40) (b : Body) : WindowKept s (s.doRestart i b) := by
  refine .ite (keeps_refuse ..) (keeps_decideOp s i _ fun _ => (keeps_enterSyncing _).after ?_)
  have slot := loop_setSlotState s i .loopOp
  exact .of_same (congrArg LoopPort.state slot :) (congrArg LoopPort.window slot :) (congrArg LoopPort.sequence slot :)
    (congrArg LoopPort.guard slot :)

theorem keeps_doSetAttention (i : Fin 40) (b : Body) : WindowKept s (s.doSetAttention i b) :=
  .ite (keeps_refuse ..) (keeps_finish s (by rfl) ..)

theorem keeps_answerLoop (i : Fin 40) (b : Body) : WindowKept s (s.answerLoop i b) :=
  have cleared : WindowKept s (if u8 b 0x0D == 1 then s.count fun _ => Stats.zero else s) :=
    .ite (.of_same rfl rfl rfl rfl) (.refl _)
  cleared.trans (keeps_finish _ rfl ..)

theorem keeps_doQuery (i : Fin 40) (b : Body) : WindowKept s (s.doQuery i b) :=
  .ite (keeps_refuse ..) <| .ite (keeps_refuse ..) <| .ite (keeps_finish s rfl ..) <|
    .ite (keeps_finish s (loop_post ..) ..) <| .ite (keeps_answerLoop ..) <|
      .ite (keeps_finish s (loop_post ..) ..) (keeps_finish s rfl ..)

theorem keeps_cancelTagged (tag : BitVec 64) (i : CtxId) : WindowKept s (s.cancelTagged tag i) :=
  .ite ((Carries.refl s).cancelCtx _ _).keeps (.refl _)

theorem keeps_doCancel (i : Fin 40) (b : Body) : WindowKept s (s.doCancel i b) := by
  refine .ite (keeps_refuse ..) ?_
  have hits := WindowKept.foldl (fun s k => keeps_refuse s k .cancelled)
    (s.setIntake fun x => { x with pendingList := x.pendingList.filter fun k => !s.tagged (u64 b 0x00) k })
    (s.intake.pendingList.filter (s.tagged (u64 b 0x00)))
  have running := ((hits.after (s := s) (.of_eq rfl)).trans (keeps_cancelTagged _ (u64 b 0x00) ctxA)).trans
    (keeps_cancelTagged _ (u64 b 0x00) ctxB)
  exact .ite (running.trans (keeps_refuse ..)) (running.trans (keeps_finish _ rfl ..))

theorem keeps_doKind (i : Fin 40) (r : Record) : WindowKept s (s.doKind i r) :=
  .ite (keeps_doLoad ..) <| .ite (keeps_doRun ..) <| .ite (keeps_doExchange ..) <| .ite (keeps_doStart ..) <|
    .ite (keeps_doStop ..) <| .ite (keeps_doRelease ..) <| .ite (keeps_doSurvey ..) <| .ite (keeps_doReconfigure ..) <|
    .ite (keeps_doSetAttention ..) <| .ite (keeps_doRestart ..) <| .ite (keeps_doQuery ..) <|
    .ite (keeps_doCancel ..) (keeps_refuse ..)

theorem keeps_dispatch (acc : Nat) (r : Record) : WindowKept s (s.dispatch acc r) := by
  unfold State.dispatch
  split
  · rename_i i _
    have done := (keeps_doKind (s.keepRecord i r) i r).after (.of_eq (loop_keepRecord s i r))
    exact .ite (done.trans (keeps_settle _ s)) (done.trans (keeps_settleIntake _ s))
  · exact .refl _

/-! ### The source of a load (R7, R8) -/

theorem keeps_endLoad (l : Load) (r : Result) (step written : Nat) : WindowKept s (s.endLoad l r step written) :=
  keeps_finish s (by rfl) ..

theorem keeps_sourceArrives (l : Load) (image : StepImage) : WindowKept s (s.sourceArrives l image).1 := by
  unfold State.sourceArrives
  split
  · exact keeps_endLoad ..
  · dsimp only
    split
    · exact keeps_finish s (by rfl) ..
    · exact .of_eq rfl

theorem keeps_sourceStep (acc : Nat) (image : StepImage) : WindowKept s (s.sourceStep acc image) := by
  unfold State.sourceStep
  split
  · rename_i l _
    have done := keeps_sourceArrives s l image
    exact .ite (done.trans (keeps_settle _ s)) done
  · exact .refl _

theorem keeps_sourceFails (acc : Nat) : WindowKept s (s.sourceFails acc) := by
  unfold State.sourceFails
  split
  · exact (keeps_endLoad ..).trans (keeps_settle _ s)
  · exact .refl _

/-! ### The queues (chapter 7, sections 6.4 and 8.6) -/

theorem loop_setCause (c : Cause) : (s.setCause c).loop = s.loop := by rw [setCause_eq]

theorem keeps_takerFrame (k : Nat) : WindowKept s (s.takerFrame k) := by
  refine .ite (keeps_raise ..) (.of_eq ?_)
  show (s.place _).loop = s.loop
  unfold State.place
  split <;> rfl

theorem loop_writeNotice (k kind : Nat) (d : DoneRecord) (b : List Byte) : (s.writeNotice k kind d b).loop = s.loop := by
  simp only [State.writeNotice, loop_post]

theorem loop_fillNotice (k : Nat) : (s.fillNotice k).loop = s.loop := by
  unfold State.fillNotice
  split
  · exact loop_writeNotice ..
  · split
    · exact loop_writeNotice ..
    · exact loop_writeNotice ..

theorem keeps_noticeFrame (k : Nat) : WindowKept s (s.noticeFrame k) := by
  refine .ite (keeps_raise ..) ?_
  split
  · exact (((Carries.refl _).setSlot _ _).markReady _).keeps.after (.of_eq (loop_fillNotice s k))
  · exact .of_eq (loop_fillNotice s k)

theorem keeps_posted (e : Bool) : WindowKept s (s.posted e) := by
  unfold State.posted
  split
  · exact .ite (.of_eq (loop_setCause ..)) (.of_eq rfl)
  · exact .ite (.of_eq (loop_setCause ..)) (.of_eq rfl)

theorem keeps_noticeEmpty : WindowKept s s.noticeEmpty := by
  refine .of_eq ?_
  show (if s.notice.episode then _ else _ : State).loop = s.loop
  split
  · rfl
  · exact loop_setCause ..

theorem keeps_report (q : Queue) (r : Report) : WindowKept s (s.report q r) := by
  unfold State.report
  split
  · exact .ite (.of_eq rfl) (.of_eq rfl)
  · exact keeps_takerFrame ..
  · exact keeps_noticeEmpty s
  · exact keeps_noticeFrame ..
  · exact keeps_posted ..
  · exact .refl _

theorem keeps_reported (q : Queue) (x : State × Option Report) (same : x.1.loop = s.loop) :
    WindowKept s (State.reported q x) := by
  unfold State.reported
  split
  · exact (keeps_report ..).after (.of_eq same)
  · exact .of_eq same

theorem loop_headerArrives (q : Queue) (o : QueueOp) (head tail count : Word) :
    (s.headerArrives q o head tail count).1.loop = s.loop := by
  unfold State.headerArrives
  split
  · rfl
  · dsimp only
    by_cases removal : o.frame = 0
    · simp only [if_pos removal]; split <;> rfl
    · simp only [if_neg removal]
      split
      · show (s.insertFirst q o.frame).loop = s.loop
        simp only [State.insertFirst, loop_post]
      · rfl

theorem loop_unlink (q : Queue) (link count : Word) : (s.unlink q link count).loop = s.loop := by
  unfold State.unlink
  dsimp only
  rw [loop_post]
  split <;> simp only [loop_post]

theorem loop_linkArrives (q : Queue) (o : QueueOp) (head tail count link : Word) :
    (s.linkArrives q o head tail count link).1.loop = s.loop := by
  unfold State.linkArrives
  split
  · split
    · exact loop_unlink s q link count
    · rfl
  · split
    · show (s.insertBehind q o.frame tail count).loop = s.loop
      simp only [State.insertBehind, loop_post]
    · rfl

theorem keeps_headerOutcome (acc : Nat) (head tail count : Word) : WindowKept s (s.headerOutcome acc head tail count) := by
  unfold State.headerOutcome
  split
  · split
    · exact keeps_reported _ _ _ (loop_headerArrives ..)
    · exact .refl _
  · exact .refl _

theorem keeps_linkOutcome (acc : Nat) (link : Word) : WindowKept s (s.linkOutcome acc link) := by
  unfold State.linkOutcome
  split
  · split
    · exact keeps_reported _ _ _ (loop_linkArrives ..)
    · exact .refl _
  · exact .refl _

theorem keeps_claimOutcome (acc : Nat) (found : Option Word) : WindowKept s (s.claimOutcome acc found) := by
  unfold State.claimOutcome
  split
  · exact .refl _
  · split
    · exact .refl _
    · exact keeps_raise ..
    · exact .ite (.of_eq rfl) (.ite (.of_eq rfl) (keeps_raise ..))

theorem keeps_backoffExpires (q : Queue) : WindowKept s (s.backoffExpires q) := by
  unfold State.backoffExpires
  split
  · exact .ite (.ite (.of_eq rfl) (.of_eq rfl)) (.refl _)
  · exact .refl _

theorem keeps_contentionExpires (q : Queue) : WindowKept s (s.contentionExpires q) := by
  unfold State.contentionExpires
  split
  · exact .ite (.of_eq rfl) (.refl _)
  · exact .refl _

theorem keeps_stallExpires (q : Queue) : WindowKept s (s.stallExpires q) := by
  unfold State.stallExpires
  split
  · exact .ite (.of_eq (loop_setCause ..)) (.refl _)
  · exact .refl _

theorem keeps_queueReadFails (acc : Nat) : WindowKept s (s.queueReadFails acc) := by
  unfold State.queueReadFails
  split
  · exact .of_eq rfl
  · split
    · split <;> exact .of_eq rfl
    · exact .refl _

theorem keeps_releaseOutcome (acc : Nat) (found : Option Word) : WindowKept s (s.releaseOutcome acc found) := by
  unfold State.releaseOutcome
  split
  · refine .ite (.ite ?_ (keeps_raise ..)) (.refl _)
    dsimp only
    split
    · exact (keeps_raise _ _).after (.of_eq rfl)
    · exact .of_eq rfl
  · exact .refl _

theorem keeps_frameReadFails (acc : Nat) : WindowKept s (s.frameReadFails acc) := by
  unfold State.frameReadFails
  split
  · split
    · exact keeps_raise ..
    · exact .refl _
  · exact .refl _

/-! ### Engine Control and the registers (chapter 9) -/

/-- After a reset the window is empty and the guard count 0 (R46). -/
theorem keeps_softReset : WindowKept s s.softReset := ⟨fun _ => rfl, fun _ => rfl⟩

theorem keeps_hardReset : WindowKept s s.hardReset := ⟨fun _ => rfl, fun _ => rfl⟩

theorem keeps_enable : WindowKept s s.enable :=
  .ite (.ite ((keeps_raise _ _).after (.of_eq rfl)) (.of_eq rfl)) (.refl _)

theorem keeps_anchorOutcome (acc : Nat) (image : Option AnchorImage) : WindowKept s (s.anchorOutcome acc image) := by
  refine .ite ?_ (.refl _)
  split
  · exact keeps_raise ..
  · split
    · exact keeps_raise ..
    · exact (keeps_settle _ s).after (.of_empty rfl rfl)

theorem keeps_quiesceOne (x : Quiescing) : WindowKept s (s.quiesceOne x) := by
  cases x with
  | pending =>
    unfold State.quiesceOne
    dsimp only
    split
    · exact .refl _
    · exact (keeps_refuse ..).after (.of_eq rfl)
  | context i => exact ((Carries.refl s).cancelCtx i _).keeps
  | cadence n => exact ((Carries.refl s).cadenceStop n _).keeps

theorem loop_takerQuiesce : s.takerQuiesce.loop = s.loop := by
  unfold State.takerQuiesce
  split <;> rfl

theorem keeps_quiesce : WindowKept s s.quiesce :=
  .ite ((keeps_settleIntake _ s).after
    ((WindowKept.foldl keeps_quiesceOne _ _).after (.of_eq (loop_takerQuiesce { s with engine := _ })))) (.refl _)

theorem keeps_takerPrompt : WindowKept s s.takerPrompt := by
  refine .ite ?_ (.refl _)
  split <;> exact .of_eq rfl

theorem keeps_noticePrompt : WindowKept s s.noticePrompt :=
  .ite (.ite (.of_eq rfl) (.ite (.ite (.of_eq (by rw [noticeBegin_eq])) (.ite (.of_eq rfl) (.refl _))) (.refl _))) (.refl _)

theorem keeps_writePrompt (v : Word) : WindowKept s (s.writePrompt v) :=
  have first : WindowKept s (if v.getLsbD 0 then s.takerPrompt.settleIntake s else s) :=
    .ite ((keeps_takerPrompt s).trans (keeps_settleIntake _ s)) (.refl _)
  .ite (first.trans ((keeps_noticePrompt _).trans (keeps_settleIntake ..))) first

theorem keeps_writeCause (v : Word) : WindowKept s (s.writeCause v) :=
  .ite (.of_eq rfl) (.ite (.of_eq rfl) (.of_eq rfl))

theorem keeps_writeAnchor (high : Bool) (v : Word) : WindowKept s (s.writeAnchor high v) :=
  .ite (.ite (.of_eq rfl) (.of_eq rfl)) (.refl _)

theorem keeps_registerWrite (offset bytes : Nat) (v : Word) : WindowKept s (s.registerWrite offset bytes v) :=
  have command : WindowKept s (s.writeCommand v) :=
    .ite (keeps_enable s) (.ite (keeps_quiesce s) (.ite (keeps_softReset s) (.refl _)))
  .ite (.ite (keeps_writeAnchor ..) <| .ite (keeps_writeAnchor ..) <| .ite command <| .ite (keeps_writePrompt ..) <|
    .ite (keeps_writeCause ..) (.refl _)) (.refl _)

/-! ### Attentions, contexts, cadences and the clock -/

theorem keeps_attentionArrives (st : BitVec 6) (code : Word) : WindowKept s (s.attentionArrives st code) := by
  refine .ite ?_ (.refl _)
  unfold State.takeAttention
  dsimp only
  refine .ite ?_ (.of_same rfl rfl rfl rfl)
  split <;> exact .of_same rfl rfl rfl rfl

theorem keeps_inputArrives (acc : Nat) (w : Word) : WindowKept s (s.inputArrives acc w) := by
  unfold State.inputArrives
  split <;> exact .of_eq rfl

theorem keeps_inputFails (acc : Nat) : WindowKept s (s.inputFails acc) := by
  unfold State.inputFails
  split
  · exact (((Carries.refl s).setCtx _ _).stepError _ _ _ _).keeps
  · exact .refl _

theorem keeps_pauseEnds (i : CtxId) : WindowKept s (s.pauseEnds i) :=
  .ite (((Carries.refl s).setCtx _ _).nextStep i).keeps (.refl _)

theorem keeps_gapEnds (i : CtxId) : WindowKept s (s.gapEnds i) := .ite (.of_eq rfl) (.refl _)

theorem keeps_cadenceExpires (n : Fin 8) : WindowKept s (s.cadenceExpires n) :=
  .ite ((Carries.refl s).triggerExpires n).keeps (.refl _)

theorem keeps_loopDownStops : WindowKept s s.loopDownStops :=
  (WindowKept.foldl (fun s n => ((Carries.refl s).cadenceStop n .loopDown).keeps) _ _).after (.of_eq rfl)

theorem keeps_tick : WindowKept s s.tick :=
  have passed : WindowKept s s.passMicrosecond := .ite (.of_same rfl rfl rfl rfl) (.refl _)
  passed.trans (.ite (.of_eq rfl) (.refl _))

/-! ### Commands -/

/-- The end of an event and the part's being live change nothing of their own. -/
theorem keeps_event {f : State → State} (h : WindowKept s (f s)) : WindowKept s (s.event f) :=
  .ite (h.trans (keeps_settle _ s)) (.refl _)

theorem keeps_intakeEvent {f : State → State} (h : WindowKept s (f s)) : WindowKept s (s.intakeEvent f) :=
  .ite (h.trans (keeps_settleIntake _ s)) (.refl _)

theorem keeps_live {t : State} (h : WindowKept s t) : WindowKept s (if s.live then t else s) := .ite h (.refl _)

theorem exec_keeps {c : Instr} {t : State} (h : exec c s = .next t) : WindowKept s t := by
  cases c <;> cases h
  case powerOnReset | hostLinkReset => exact (keeps_hardReset s).trans (.of_eq rfl)
  case resetInputRelease | linkTrained => exact .of_eq rfl
  case enable | quiesce | softReset | promptRequest | promptSpare | causeWrite | anchorWrite | registerWrite =>
    exact keeps_registerWrite ..
  case anchorReadOutcome => exact keeps_live s (keeps_anchorOutcome ..)
  case badKind | loadProgram | run | exchange | startCadence | stopCadence | release | survey | reconfigure | setAttention |
      loopRestart | queryStations | queryLoop | queryCadences | queryHolds | cancel =>
    exact keeps_live s (keeps_dispatch ..)
  case loadSourceArrival => exact keeps_live s (keeps_sourceStep ..)
  case loadSourceReadFail => exact keeps_live s (keeps_sourceFails ..)
  case lockClaimOutcome => exact keeps_intakeEvent s (keeps_claimOutcome ..)
  case lockBackoffExpiry => exact keeps_intakeEvent s (keeps_backoffExpires ..)
  case contentionPauseExpiry => exact keeps_intakeEvent s (keeps_contentionExpires ..)
  case stallTimerExpiry => exact keeps_intakeEvent s (keeps_stallExpires ..)
  case headerReadOutcome => exact keeps_intakeEvent s (keeps_headerOutcome ..)
  case linkReadOutcome => exact keeps_intakeEvent s (keeps_linkOutcome ..)
  case queueReadFail => exact keeps_intakeEvent s (keeps_queueReadFails ..)
  case lockReleaseOutcome => exact keeps_intakeEvent s (keeps_releaseOutcome ..)
  case frameReadFail => exact keeps_intakeEvent s (keeps_frameReadFails ..)
  case inputWordArrival => exact keeps_event s (keeps_inputArrives ..)
  case inputReadFail => exact keeps_event s (keeps_inputFails ..)
  case pauseExpiry => exact keeps_event s (keeps_pauseEnds ..)
  case awaitGapExpiry => exact keeps_event s (keeps_gapEnds ..)
  case frameTransmitEnd => exact keeps_event s (keeps_transmitEnd s)
  case replyArrival => exact keeps_event s ((keeps_framed s).trans (keeps_replyArrives ..))
  case frameReturned => exact keeps_event s ((keeps_framed s).trans (keeps_frameReturns ..))
  case badCheckFrame => exact keeps_event s ((keeps_framed s).trans (keeps_badCheck _))
  case attentionArrival => exact keeps_intakeEvent s ((keeps_framed s).trans (keeps_attentionArrives ..))
  case syncArrival => exact keeps_event s ((keeps_framed s).trans (keeps_syncArrives ..))
  case unexpectedTypeFrame => exact keeps_event s ((keeps_framed s).trans (keeps_sequenceFault _))
  case lineLoss => exact keeps_event s (keeps_lineLost s)
  case replyTimeout => exact keeps_event s (keeps_deadlineExpires s)
  case quietTimerExpiry => exact keeps_event s (keeps_quietExpires s)
  case syncTimerExpiry => exact keeps_event s (keeps_syncExpires s)
  case syncQuietExpiry => exact keeps_event s (keeps_syncQuietExpires s)
  case cadenceLoopDownStop => exact keeps_event s (keeps_loopDownStops s)
  case settleTimerExpiry => exact keeps_event s (keeps_settleEnds s)
  case cadenceTrigger => exact keeps_event s (keeps_cadenceExpires ..)

theorem step_keeps {t : State} (h : step s = .next t) : WindowKept s t := by
  unfold step at h
  split at h
  · cases h
    exact keeps_tick s
  · exact (exec_keeps { s with pending := _ } h).after (.of_eq rfl)

end Sys2Proof.Machine

open Sys2Proof Sys2Proof.Machine

/-- Settles O4: every operation of the part keeps the form of the window and the guard count's limit (`WindowKept`). -/
theorem stepKeepsWindowAndGuard : Obligations.StepKeepsWindowAndGuard :=
  fun _ _ h => ⟨(step_keeps _ h).window, (step_keeps _ h).guard⟩

end

section
/-! The Loop Port's start: a good anchor block, and the loop operations as they are accepted (R62, R65, R80 to R82, R160). -/

namespace Sys2Proof.Machine

open Sys2Proof

variable {s : State} {i : Fin 40} {b : Body}

/-- A good anchor block brings the engine to RUNNING and the loop to its first SYNC (R62, R160). -/
theorem anchorOutcome_good {acc : Nat} {a : AnchorImage} (starting : s.engine.state = .starting)
    (read : s.engine.anchorRead = some acc) (good : a.failedCheck = none) :
    s.anchorOutcome acc (some a) = ({ s with
      engine := { s.engine with state := .running, config := a.config, timeBase := 0, anchorRead := none },
      loop := s.loop.firstSync,
      intake := { s.intake with taker := .blocked } } : State).settle s := by
  simp only [State.anchorOutcome, if_pos (And.intro starting read), good]
  rfl

/-! ### LOOP RESTART -/

theorem restartRefusal_busy (op : s.loop.op.isSome = true) : s.restartRefusal = some .busy := if_pos op

theorem restartRefusal_up (op : s.loop.op = none) (up : s.loop.state ≠ .down) : s.restartRefusal = some .noEffect := by
  simp [State.restartRefusal, op, up]

theorem restartRefusal_none (op : s.loop.op = none) (down : s.loop.state = .down) : s.restartRefusal = none := by
  simp [State.restartRefusal, op, down]

/-- A loop operation that the Loop Port refuses ends with its refusal, whatever the engine's state (log entry 35). -/
theorem decideOp_refused {r : Result} {refusal : Option Result} (accept : State → State) (refuses : refusal = some r) :
    s.decideOp i refusal accept = s.refuse i r := by rw [refuses]; rfl

theorem decideOp_quiesced {refusal : Option Result} (accept : State → State) (accepts : refusal = none)
    (quiescing : s.engine.state = .quiescing) : s.decideOp i refusal accept = s.refuse i .quiesced := by
  rw [accepts]
  exact if_pos (by simp [State.quiescing, quiescing])

theorem decideOp_accepted {refusal : Option Result} (accept : State → State) (accepts : refusal = none)
    (working : s.engine.state ≠ .quiescing) : s.decideOp i refusal accept = accept s := by
  rw [accepts]
  exact if_neg (by simp [State.quiescing, working])

theorem doRestart_eq (fields : restartFieldsOk b = true) :
    s.doRestart i b = s.decideOp i s.restartRefusal fun s => s.acceptRestart i := by
  simp [State.doRestart, fields]

theorem acceptRestart_eq {y : Slot} (slot : s.slot i = some y) : s.acceptRestart i = { s with
    intake := { s.intake with custody := s.intake.custody.set i (some { y with state := .loopOp }) },
    loop := { s.loop.firstSync with op := some (.restart i) } } := by
  simp only [State.acceptRestart, setSlotState_eq slot, enterSyncing_eq]
  rfl

/-! ### RECONFIGURE -/

theorem reconfigureRefusal_busy (op : s.loop.op.isSome = true) : s.reconfigureRefusal = some .busy := if_pos op

theorem reconfigureRefusal_state (op : s.loop.op = none) (closed : s.loop.state ≠ .opened) (up : s.loop.state ≠ .down) :
    s.reconfigureRefusal = some .busy := by
  unfold State.reconfigureRefusal
  rw [if_neg (by simp [op])]
  split
  · contradiction
  · contradiction
  · rfl

theorem reconfigureRefusal_down (op : s.loop.op = none) (down : s.loop.state = .down) :
    s.reconfigureRefusal = some .loopDown := by
  simp [State.reconfigureRefusal, op, down]

theorem reconfigureRefusal_none (op : s.loop.op = none) (opened : s.loop.state = .opened) : s.reconfigureRefusal = none := by
  simp [State.reconfigureRefusal, op, opened]

theorem doReconfigure_badField (fields : reconfigureFieldsOk b = false) : s.doReconfigure i b = s.refuse i .badField := by
  simp [State.doReconfigure, fields]

theorem doReconfigure_eq (fields : reconfigureFieldsOk b = true) : s.doReconfigure i b =
    s.decideOp i s.reconfigureRefusal fun s => s.acceptReconfigure i (u64 b 0x00) (u64 b 0x08) := by
  simp [State.doReconfigure, fields]

theorem acceptReconfigure_eq {y : Slot} (bypass restore : BitVec 64) (slot : s.slot i = some y) :
    s.acceptReconfigure i bypass restore = { s with
      intake := { s.intake with custody := s.intake.custody.set i (some { y with state := .loopOp }) },
      loop := { s.loop with
        state := .draining,
        op := some (.reconfigure
          { slot := i, bypass, restore, current := 0, retries := 0, resent := false,
            outcomes := initialOutcomes bypass restore, sent := 0, timedOut := 0 }) } } := by
  simp only [State.acceptReconfigure, setSlotState_eq slot]
  rfl

theorem initialOutcomes_getElem (bypass restore : BitVec 64) (p : Fin 40) : (initialOutcomes bypass restore)[p] =
    if bypass.getLsbD (p.val + 1) || restore.getLsbD (p.val + 1) then .notDone else .unlisted := by
  simp [initialOutcomes, getElem_mapTable]

/-- The fields of a RECONFIGURE, by what is wrong with them (R79). -/
theorem reconfigureFieldsOk_iff_not : reconfigureFieldsOk b = true ↔
    ¬ ((∃ a, 1 ≤ a ∧ a ≤ 40 ∧ (u64 b 0x00).getLsbD a = true ∧ (u64 b 0x08).getLsbD a = true) ∨
      u64 b 0x00 = 0 ∧ u64 b 0x08 = 0 ∨
      (∃ a, (a = 0 ∨ 40 < a) ∧ ((u64 b 0x00).getLsbD a = true ∨ (u64 b 0x08).getLsbD a = true)) ∨
      zeroAt b 0x10 80 = false) := by
  rw [reconfigureFieldsOk_iff]
  constructor
  · rintro ⟨⟨apart, outside⟩, listed, zero⟩ (⟨a, -, -, both⟩ | ⟨none, none'⟩ | ⟨a, far, set⟩ | one)
    · exact apart a both
    · exact listed.elim (· none) (· none')
    · simp [outside a far] at set
    · simp [zero] at one
  · intro good
    simp only [not_or, not_exists, not_and, Bool.not_eq_true, Bool.not_eq_false] at good
    obtain ⟨apart, listed, outside, zero⟩ := good
    refine ⟨⟨fun a ⟨one, other⟩ => ?_, outside⟩, not_and_or.1 fun ⟨no, other⟩ => listed no other, zero⟩
    by_cases far : a = 0 ∨ 40 < a
    · simp [outside a far] at one
    · simp [apart a (by omega) (by omega) one] at other

/-- The end of an event that leaves DRAINING with an empty window, whatever is pending (R47, R81, R82). -/
theorem Wakes.settle_switches (before : State) {x : Reconfigure} {a : Nat} (active : s.active = true)
    (released : s.released = [])
    (pending : s.intake.pendingList = [] ∨ ((s.ctx ctxA).state ≠ .idle ∧ (s.ctx ctxB).state ≠ .idle))
    (draining : s.loop.state = .draining) (empty : s.loop.window = []) (op : s.loop.op = some (.reconfigure x))
    (low : 1 ≤ a) (high : a ≤ 40) (listed : x.listed a = true) (first : ∀ k, 1 ≤ k → k < a → x.listed k = false)
    (moves : ¬ (x.bypass.getLsbD a = true ∧ (s.station a).state = .bypassed)) :
    Wakes (s.switchSent { x with current := a, retries := s.engine.config.retryLimit, resent := false })
      (s.settle before) := by
  generalize next : ({ x with current := a, retries := s.engine.config.retryLimit, resent := false } : Reconfigure) = y
  let v : State := { s with loop := { s.loop with state := .switching, op := some (.reconfigure y), sendDue := true } }
  have enters : s.turn = some v := by
    rw [turn_of_loop released pending, if_pos ⟨draining, empty⟩, enterSwitching_first op low high listed first moves, next]
  have waits : v.released = [] := released_of_op released rfl rfl fun gone => by cases gone
  by_cases free : s.loop.transmitting = none
  · have sends : v.turn = some (s.switchSent y) := by
      rw [turn_of_loop waits pending, if_neg (by simp [v]), if_pos ⟨rfl, free⟩]
      simp [State.sendOwn, State.switchSent, free, v, State.setLoop, State.enterWindow, State.transmit, State.issue,
        State.count, Reconfigure.frame, Reconfigure.asked]
    have sent : s.switchSent y = { v with
        loop := (s.switchSent y).loop, link := (s.switchSent y).link } := by
      unfold State.switchSent; rw [if_pos free]
    have calm : (s.switchSent y).calm = true := by
      unfold State.switchSent
      rw [if_pos free]
      exact calm_of_recovery (released_of_op released rfl rfl fun gone => by cases gone) pending ⟨by simp, by simp⟩ (.inl rfl)
    rw [settle_two s before v _ active enters sends (turn_none_of_calm _ calm) (by rw [sent])]
    exact .settleIntake _ _
  · have due : s.switchSent y = v := if_neg free
    rw [due, settle_one s before v active enters
      (turn_none_of_calm _ (calm_of_recovery waits pending ⟨by simp [v], by simp [v]⟩ (.inr free))) rfl]
    exact .settleIntake _ _

end Sys2Proof.Machine

open Sys2Proof Sys2Proof.Machine

/-- Settles O19: the anchor block's outcome, and behind it the SYNC that is due. -/
theorem goodAnchorStartsEngine : Obligations.GoodAnchorStartsEngine := by
  intro s acc a live starting read good released pending free
  have run : exec (.anchorReadOutcome acc (some a)) s = .next (s.anchorOutcome acc (some a)) :=
    congrArg Host.Outcome.next (if_pos live)
  rw [anchorOutcome_good starting read good] at run
  obtain ⟨u, wakes, sent, -⟩ := Wakes.settle_sync (s := { s with
      engine := { s.engine with state := .running, config := a.config, timeBase := 0, anchorRead := none },
      loop := s.loop.firstSync,
      intake := { s.intake with taker := .blocked } }) s rfl released (.inl pending) rfl rfl
  exact ⟨_, u, run, wakes, sent free⟩

/-- Settles O43: the Loop Port's refusals, and the first SYNC of an accepted LOOP RESTART. -/
theorem loopRestartLeavesDown : Obligations.LoopRestartLeavesDown := by
  intro s acc tag b i x live taken slot calm fields y ends
  have ended : ∀ r : Result, (s.setSlot i (some y)).doRestart i b = (s.setSlot i (some y)).refuse i r → ends r.code :=
    fun r effect => dispatch_finishes (fun _ => rfl) live taken slot (fun _ => calm) effect
  obtain ⟨-, -, -, released, pending⟩ := (calm_iff s).1 calm
  refine ⟨fun op => ended .busy ?_, fun op up => ended .noEffect ?_, fun op down quiescing => ended .quiesced ?_,
    fun op down running free => ?_⟩
  · rw [doRestart_eq fields, decideOp_refused _ (restartRefusal_busy (s := s.setSlot i (some y)) op)]
  · rw [doRestart_eq fields, decideOp_refused _ (restartRefusal_up (s := s.setSlot i (some y)) op up)]
  · rw [doRestart_eq fields, decideOp_quiesced (s := s.setSlot i (some y)) _
      (restartRefusal_none (s := s.setSlot i (some y)) op down) quiescing]
  · have accepts : (s.setSlot i (some y)).doRestart i b = { s with
        intake := { s.intake with custody := s.intake.custody.set i (some { y with state := .loopOp }) },
        loop := { s.loop.firstSync with op := some (.restart i) } } := by
      rw [doRestart_eq fields, decideOp_accepted _ (restartRefusal_none (s := s.setSlot i (some y)) op down)
        (by simp [running]), acceptRestart_eq (State.slot_setSlot_same ..)]
      simp [State.setSlot]
    have run := dispatch_eq (c := .loopRestart acc tag b) (fun _ => rfl) live taken slot accepts
    obtain ⟨u, wakes, sent, -⟩ := Wakes.settle_sync (s := { s with
        intake := { s.intake with custody := s.intake.custody.set i (some { y with state := .loopOp }) },
        loop := { s.loop.firstSync with op := some (.restart i) } }) s (by simp [State.active, running])
      (released_of_op released rfl rfl fun none => by cases none) pending rfl rfl
    exact ⟨_, u, run, wakes, sent free⟩

/-- Settles O42: the refusals in their order, and an accepted RECONFIGURE with its window empty or not. -/
theorem reconfigureDrainsLoop : Obligations.ReconfigureDrainsLoop := by
  intro s acc tag b i x live taken slot calm bypass restore bad y ends
  have fields : ¬ bad → reconfigureFieldsOk b = true := reconfigureFieldsOk_iff_not.2
  have ended : ∀ r : Result, (s.setSlot i (some y)).doReconfigure i b = (s.setSlot i (some y)).refuse i r → ends r.code :=
    fun r effect => dispatch_finishes (fun _ => rfl) live taken slot (fun _ => calm) effect
  obtain ⟨-, -, -, released, pending⟩ := (calm_iff s).1 calm
  refine ⟨fun defect => ended .badField (doReconfigure_badField ?_), fun good op => ended .busy ?_,
    fun good op closed up => ended .busy ?_, fun good op down => ended .loopDown ?_,
    fun good op opened quiescing => ended .quiesced ?_, fun good op opened working => ?_⟩
  · exact Bool.eq_false_iff.2 fun ok => reconfigureFieldsOk_iff_not.1 ok defect
  · rw [doReconfigure_eq (fields good), decideOp_refused _ (reconfigureRefusal_busy (s := s.setSlot i (some y)) op)]
  · rw [doReconfigure_eq (fields good), decideOp_refused _ (reconfigureRefusal_state (s := s.setSlot i (some y)) op closed up)]
  · rw [doReconfigure_eq (fields good), decideOp_refused _ (reconfigureRefusal_down (s := s.setSlot i (some y)) op down)]
  · rw [doReconfigure_eq (fields good), decideOp_quiesced (s := s.setSlot i (some y)) _
      (reconfigureRefusal_none (s := s.setSlot i (some y)) op opened) quiescing]
  · let u : State := { s with
      intake := { s.intake with custody := s.intake.custody.set i (some { y with state := .loopOp }) },
      loop := { s.loop with
        state := .draining,
        op := some (.reconfigure
          { slot := i, bypass, restore, current := 0, retries := 0, resent := false,
            outcomes := initialOutcomes bypass restore, sent := 0, timedOut := 0 }) } }
    have accepts : (s.setSlot i (some y)).doReconfigure i b = u := by
      rw [doReconfigure_eq (fields good), decideOp_accepted (s := s.setSlot i (some y)) _
        (reconfigureRefusal_none (s := s.setSlot i (some y)) op opened) working,
        acceptReconfigure_eq _ _ (State.slot_setSlot_same ..)]
      simp [State.setSlot, u, bypass, restore]
    have waits : u.released = [] := released_of_op released rfl rfl fun none => by cases none
    refine ⟨_, u, _, dispatch_eq (c := .reconfigure acc tag b) (fun _ => rfl) live taken slot accepts,
      fun busy => .settle u s ?_, fun a active empty listed first moves => ?_, initialOutcomes_getElem _ _, rfl⟩
    · obtain ⟨-, -, silent, -, -⟩ := (calm_iff s).1 calm
      exact (calm_iff u).2 ⟨(fun can => by cases can), fun ⟨_, empty⟩ => busy empty, silent, waits, pending⟩
    · obtain ⟨⟨-, outside⟩, -⟩ := (reconfigureFieldsOk_iff b).1 (fields good)
      have near : ¬ (a = 0 ∨ 40 < a) := fun far => by
        obtain ⟨none, none'⟩ := outside a far
        exact listed.elim (by simp [bypass, none]) (by simp [restore, none'])
      exact .settle_switches (s := u) s active waits pending rfl empty rfl (by omega) (by omega)
        (by simpa [Reconfigure.listed] using listed) (fun k _ less => by simpa [Reconfigure.listed] using first k less) moves

end

section
/-! The Cadence Unit takes the news of DOWN (R64, R106). -/

namespace Sys2Proof.Machine

open Sys2Proof

variable {s : State} {n : Fin 8}

/-- With at most cadence `n` told of DOWN, forgetting the news changes at most its record. -/
theorem forgotten_cadences (others : ∀ m, m ≠ n → (s.cad m).downNotice = false) :
    mapTable (fun c => { c with downNotice := false }) s.cadences = s.cadences.set n { s.cad n with downNotice := false } := by
  refine Vector.ext fun k low => ?_
  rw [getElem_mapTable]
  by_cases same : k = n.val
  · subst same
    rw [Vector.getElem_set_self]
    rfl
  · rw [Vector.getElem_set_ne _ _ (Ne.symm same)]
    have untold : s.cadences[k].downNotice = false := others ⟨k, low⟩ fun e => same (congrArg Fin.val e)
    rw [← untold]

/-- With no cadence told of DOWN, its news is nothing. -/
theorem loopDownStops_untold (untold : ∀ m, (s.cad m).downNotice = false) : s.loopDownStops = s := by
  have same : mapTable (fun c => { c with downNotice := false }) s.cadences = s.cadences := by
    rw [forgotten_cadences (n := 0) fun m _ => untold m, ← untold 0]
    exact Vector.set_getElem_self ..
  simp only [State.loopDownStops, untold, same, List.filter_false]
  rfl

/-- The one cadence that is told of DOWN stops with that reason (R64, R106). -/
theorem loopDownStops_told (told : (s.cad n).downNotice = true) (others : ∀ m, m ≠ n → (s.cad m).downNotice = false) :
    s.loopDownStops = (s.setCad n { s.cad n with downNotice := false }).cadenceStop n .loopDown := by
  have only : (fun m : Fin 8 => (s.cad m).downNotice) = (· == n) := by
    funext m
    by_cases same : m = n
    · subst same; simp [told]
    · simp [others m same, same]
  have each : ∀ m : Fin 8, ((List.range 8).map (Fin.ofNat 8)).filter (· == m) = [m] := by decide
  simp only [State.loopDownStops, only, each, forgotten_cadences others]
  rfl

end Sys2Proof.Machine

open Sys2Proof Sys2Proof.Machine

/-- Settles O60: the stop of the one cadence that is told, by its state. -/
theorem loopDownStopsCadence : Obligations.LoopDownStopsCadence := by
  intro s n live calm others c
  have run : exec .cadenceLoopDownStop s = .next (s.loopDownStops.settle s) := congrArg Host.Outcome.next (event_eq live _)
  refine ⟨fun untold => ⟨_, run, ?_⟩, fun j z told waiting start slot => ⟨_, run, ?_⟩,
    fun told running awaiting going => ⟨_, run, ?_⟩⟩
  · rw [loopDownStops_untold fun m => if same : m = n then same ▸ untold else others m same]
    exact .settle s s calm
  · subst start
    rw [loopDownStops_told told others, cadenceStop_waiting (k := { s.cad n with downNotice := false }) _ waiting,
      cadenceIdle_eq (k := { s.cad n with downNotice := false, reason := .loopDown }) slot]
    exact .settle _ s (calm_of_rest calm rfl rfl rfl rfl)
  · rw [loopDownStops_told told others,
      cadenceStop_awaiting (k := { s.cad n with downNotice := false }) _ running awaiting going]
    exact .settle _ s (calm_of_context (i := contextOf n) calm rfl rfl rfl (.inr ⟨rfl, rfl⟩) (.inr ⟨rfl, fun idle => .inl idle⟩)
      (not_eligible (by simp [awaiting])))

end

section
/-! The arbiter: which context it picks, and what a grant leaves in its records (R51, R52). -/

namespace Sys2Proof.Machine

open Sys2Proof

variable {s : State} {i : CtxId}

/-! ### The two searches -/

/-- The first eligible cadence context from the one after the last granted (R51). -/
theorem pickCadence_first {k : Nat} (near : k < 8)
    (eligible : (s.ctx (contextOf (s.loop.lastCadence + 1 + Fin.ofNat 8 k))).eligible = true)
    (first : ∀ j, j < k → ¬ (s.ctx (contextOf (s.loop.lastCadence + 1 + Fin.ofNat 8 j))).eligible = true) :
    s.pickCadence = some (contextOf (s.loop.lastCadence + 1 + Fin.ofNat 8 k)) := by
  unfold State.pickCadence
  rw [List.find?_map, Option.map_eq_some_iff]
  refine ⟨k, List.find?_range_eq_some.2 ⟨eligible, List.mem_range.2 near, fun j less => ?_⟩, rfl⟩
  simpa using first j less

theorem pickCadence_none (silent : ∀ k, k < 8 →
    ¬ (s.ctx (contextOf (s.loop.lastCadence + 1 + Fin.ofNat 8 k))).eligible = true) : s.pickCadence = none := by
  unfold State.pickCadence
  rw [List.find?_map, Option.map_eq_none_iff]
  exact List.find?_eq_none.2 fun k near => silent k (List.mem_range.1 near)

/-- An eligible request context is picked, and of two the one not granted last (R51). -/
theorem pickRequest_some (eligible : (s.ctx ctxA).eligible = true ∨ (s.ctx ctxB).eligible = true) : s.pickRequest =
    some (if (s.ctx ctxA).eligible = true ∧ (s.ctx ctxB).eligible = true then (if s.loop.lastRequestB = true then ctxA else ctxB)
      else if (s.ctx ctxA).eligible = true then ctxA else ctxB) := by
  unfold State.pickRequest
  cases a : (s.ctx ctxA).eligible
  · simp [eligible.resolve_left (by simp [a])]
  · cases b : (s.ctx ctxB).eligible <;> simp

theorem pickRequest_none (a : ¬ (s.ctx ctxA).eligible = true) (b : ¬ (s.ctx ctxB).eligible = true) : s.pickRequest = none := by
  simp [State.pickRequest, a, b]

theorem pickRequest_isSome : s.pickRequest.isSome = true ↔ (s.ctx ctxA).eligible = true ∨ (s.ctx ctxB).eligible = true := by
  refine ⟨fun some => ?_, fun eligible => by rw [pickRequest_some eligible]; rfl⟩
  by_contra neither
  rw [pickRequest_none (fun a => neither (.inl a)) (fun b => neither (.inr b))] at some
  cases some

/-! ### What a grant leaves -/

/-- A noted grant, in the arbiter's three records (R51, R52). -/
theorem noteGrant_loop (i : CtxId) : (s.noteGrant i).loop = { s.loop with
    lastCadence := (cadenceOf i).getD s.loop.lastCadence,
    lastRequestB := if i.val < 8 then s.loop.lastRequestB else i == ctxB,
    guard := if i.val < 8 ∧ s.pickRequest.isSome = true then s.loop.guard + 1 else 0 } := by
  unfold State.noteGrant
  by_cases cadence : i.val < 8
  · have number : cadenceOf i = some ⟨i.val, cadence⟩ := dif_pos cadence
    simp only [number, cadence, true_and, if_true]
    rfl
  · have number : cadenceOf i = none := dif_neg cadence
    simp only [number, cadence, false_and, if_false]
    rfl

/-- A grant, whether it lapses or its COMMAND is sent, leaves the arbiter's records as they were noted. -/
theorem grant_records {t : State} (pick : s.pick = some i) (grants : s.grant = some t) :
    t.loop.lastCadence = (s.noteGrant i).loop.lastCadence ∧ t.loop.lastRequestB = (s.noteGrant i).loop.lastRequestB ∧
      t.loop.guard = (s.noteGrant i).loop.guard := by
  unfold State.grant at grants
  split at grants
  · simp only [pick] at grants
    split at grants <;> cases grants
    · have same := ((Carries.refl (s.noteGrant i)).lapse i).loop
      exact ⟨congrArg _ same, congrArg _ same, congrArg _ same⟩
    · exact ⟨rfl, rfl, rfl⟩
  · cases grants

end Sys2Proof.Machine

open Sys2Proof Sys2Proof.Machine

/-- Settles O49: the pick from the two searches by the guard count, and the records from the noted grant. -/
theorem arbiterChoosesNextGrant : Obligations.ArbiterChoosesNextGrant := by
  intro s ready cadence request
  refine ⟨fun k near eligible first turn => ?_, fun eligible turn => ?_, fun silent => ?_, fun i t pick grants => ?_⟩
  · unfold State.pick
    rw [pickCadence_first near eligible first]
    split
    · rename_i limit
      obtain ⟨a, b⟩ := turn.resolve_left (Nat.not_lt.2 limit)
      rw [pickRequest_none a b]
      rfl
    · rfl
  · unfold State.pick
    rw [pickRequest_some eligible]
    split
    · rfl
    · rename_i below
      rw [pickCadence_none (turn.resolve_right below)]
      rfl
  · exact pick_none s fun i => Bool.eq_false_iff.2 (silent i)
  · obtain ⟨last, lastRequest, guard⟩ := grant_records pick grants
    rw [last, lastRequest, guard, noteGrant_loop]
    exact ⟨rfl, rfl, by simp only [pickRequest_isSome, ready]⟩

end

section
/-! The answer to a SWITCH (R47, R55, R82, R83, R85). -/

namespace Sys2Proof.Machine

open Sys2Proof

variable {s u : State} {r : InFlight} {x : Reconfigure} {p : Fin 40}

/-! ### Frames that take the only record of the window -/

/-- The state once the only record of the window has left it with a frame that is heard, the counters standing at `k`
(R56, R59). -/
def State.heardLast (s : State) (k : Stats) : State :=
  { s with loop := { s.loop with window := [], lineLoss := false, receiver := .between false, stats := k } }

theorem exec_replyArrival_last (live : s.live = true) (window : s.loop.window = [r]) (state : s.loop.state.matches = true)
    (ack ready : Bool) (data : Word) : exec (.replyArrival r.sequence r.frame.station ack ready data) s =
      .next (((s.heardLast { s.loop.stats with repliesAccepted := satInc s.loop.stats.repliesAccepted }).hand r.owner
        (.reply ack ready data)).settle s) := by
  rw [show exec (.replyArrival r.sequence r.frame.station ack ready data) s = .next _ from
    congrArg Host.Outcome.next (event_eq live _), framed_replyArrives window state]
  rfl

theorem exec_frameReturned_last (live : s.live = true) (window : s.loop.window = [r])
    (returns : s.loop.state.returns r.frame.type = true) :
    exec (.frameReturned r.frame) s = .next (((s.heardLast s.loop.stats).hand r.owner .returned).settle s) := by
  have heard : s.framed.popOldest = s.heardLast s.loop.stats := by
    simp [State.framed, State.popOldest, State.setLoop, State.heardLast, window]
  rw [show exec (.frameReturned r.frame) s = .next _ from congrArg Host.Outcome.next (event_eq live _),
    framed_frameReturns window returns, heard]

theorem exec_badCheckFrame_last (live : s.live = true) (window : s.loop.window = [r]) (state : s.loop.state.matches = true) :
    exec .badCheckFrame s =
      .next (((s.heardLast { s.loop.stats with checkFailures := satInc s.loop.stats.checkFailures }).hand r.owner
        .checkFailure).settle s) := by
  have heard : s.framed.countCheck.popOldest =
      s.heardLast { s.loop.stats with checkFailures := satInc s.loop.stats.checkFailures } := by
    simp [State.framed, State.countCheck, State.count, State.popOldest, State.setLoop, State.heardLast, window]
  rw [show exec .badCheckFrame s = .next _ from congrArg Host.Outcome.next (event_eq live _),
    framed_badCheck window state, heard]

/-! ### The outcome of a SWITCH (R83) -/

/-- What a decided station leaves: its record, its outcome, and the walk to the next listed station (R83). -/
theorem switchDecided_place (current : x.current = p.val + 1) (o : Outcome40) (st : Option StationState) :
    u.switchDecided x o st = ({ u with
      stations := u.stations.set p { u.stations[p] with state := st.getD u.stations[p].state } } : State).switchNext
        { x with outcomes := x.outcomes.set p o } x.current := by
  have place : stationPlace x.current = some p := by simp [stationPlace, current, p.isLt]
  have outcome : x.setOutcome x.current o = { x with outcomes := x.outcomes.set p o } := by
    simp [Reconfigure.setOutcome, place]
  unfold State.switchDecided
  rw [outcome]
  cases st with
  | none =>
    have same : u.stations.set p { u.stations[p] with state := u.stations[p].state } = u.stations :=
      Vector.set_getElem_self ..
    exact congrArg (fun t : Vector Station 40 => ({ u with stations := t } : State).switchNext _ x.current) same.symm
  | some st => simp [State.modStation, place]

section
variable (op : u.loop.op = some (.reconfigure x))
include op

theorem switchOutcome_refused (ready : Bool) (data : Word) : u.switchOutcome (.reply false ready data) =
    u.switchDecided x .refused (if x.bypass.getLsbD x.current then some .present else none) := by
  simp [State.switchOutcome, op]

theorem switchOutcome_already (ready : Bool) {data : Word}
    (asked : data = if x.bypass.getLsbD x.current = true then 1 else 2) (first : x.resent = false) :
    u.switchOutcome (.reply true ready data) =
      u.switchDecided x .already (some (if x.bypass.getLsbD x.current then .bypassed else .present)) := by
  simp [State.switchOutcome, op, Reconfigure.asked, asked, first]

theorem switchOutcome_switched (ready : Bool) {data : Word}
    (moved : data ≠ (if x.bypass.getLsbD x.current = true then 1 else 2) ∨ x.resent = true) :
    u.switchOutcome (.reply true ready data) =
      u.switchDecided x .switched (some (if x.bypass.getLsbD x.current then .bypassed else .unknown)) := by
  have other : ¬ (data = x.asked x.current ∧ ¬ x.resent = true) := fun ⟨same, first⟩ => moved.elim (· same) first
  simp only [State.switchOutcome, op, Bool.true_eq_false, if_false, if_neg other]

theorem switchOutcome_returned : u.switchOutcome .returned =
    u.switchDecided x .noStation (if x.bypass.getLsbD x.current then some .absent else none) := by
  simp [State.switchOutcome, op]

theorem switchOutcome_checkFailure (last : x.retries = 0) : u.switchOutcome .checkFailure = u.switchDecided x .notDone none := by
  simp [State.switchOutcome, op, last]

theorem switchOutcome_retry (left : 0 < x.retries) : u.switchOutcome .checkFailure = u.setLoop fun l =>
    { l with op := some (.reconfigure { x with retries := x.retries - 1, resent := true }), sendDue := true } := by
  simp [State.switchOutcome, op, left]

end

/-! ### The walk at the end of the event (R82, R85) -/

section
variable {y : Reconfigure} (before : State) (released : u.released = []) (pending : u.intake.pendingList = [])
include released pending

/-- Behind the last listed station the loop settles (R85). -/
theorem Wakes.settle_switchNext_none
    (unlisted : ∀ a, y.current < a → a ≤ 40 → y.bypass.getLsbD a = false ∧ y.restore.getLsbD a = false) :
    Wakes { u with loop := { u.loop with
      state := .settling, sendDue := false, settleTimer := some u.engine.config.settleInterval,
      op := some (.reconfigure y) } } ((u.switchNext y y.current).settle before) := by
  have walk : u.switchNext y y.current = _ := switchWalk_none y u (40 - y.current) (y.current + 1) fun a low high => by
    obtain ⟨no, other⟩ := unlisted a (by omega) (by omega)
    simp [Reconfigure.listed, no, other]
  rw [walk]
  exact .settle _ before (calm_of_recovery (released_of_op released rfl rfl fun gone => by cases gone) (.inl pending)
    ⟨nofun, nofun⟩ (.inl rfl))

/-- The next listed station gets its SWITCH in the event (R47, R82). -/
theorem Wakes.settle_switchNext_first (active : u.active = true) (switching : u.loop.state = .switching) {a : Nat}
    (behind : y.current < a) (high : a ≤ 40) (listed : y.bypass.getLsbD a = true ∨ y.restore.getLsbD a = true)
    (first : ∀ k, y.current < k → k < a → y.bypass.getLsbD k = false ∧ y.restore.getLsbD k = false)
    (moves : ¬ (y.bypass.getLsbD a = true ∧ (u.station a).state = .bypassed)) :
    Wakes (u.switchSent { y with current := a, retries := u.engine.config.retryLimit, resent := false })
      ((u.switchNext y y.current).settle before) := by
  have walk : u.switchNext y y.current = _ := switchWalk_first a y u (by simpa [Reconfigure.listed] using listed) moves
    (40 - y.current) (y.current + 1) (by omega) (by omega) fun k low less => by
      obtain ⟨no, other⟩ := first k (by omega) less
      simp [Reconfigure.listed, no, other]
  rw [walk]
  generalize ({ y with current := a, retries := u.engine.config.retryLimit, resent := false } : Reconfigure) = next
  have same : (u.setLoop fun l => { l with op := some (.reconfigure next), sendDue := true }).switchSent next =
      u.switchSent next := rfl
  rw [← same]
  exact .settle_switchSent _ before next active switching rfl rfl
    (released_of_op released rfl rfl fun gone => by cases gone) (.inl pending)

end

/-- The record of another station stands when one is set. -/
theorem station_set_other {a : Nat} (other : a ≠ p.val + 1) (v : Station) :
    ({ u with stations := u.stations.set p v } : State).station a = u.station a := by
  cases place : stationPlace a with
  | none => simp [State.station, place]
  | some q =>
    have apart : p.val ≠ q.val := by
      unfold stationPlace at place
      split at place
      · cases place; dsimp only; omega
      · cases place
    simp only [State.station, place]
    exact Vector.getElem_set_ne _ _ apart

end Sys2Proof.Machine

open Sys2Proof Sys2Proof.Machine

/-- Settles O54: the answer decides the station, and the walk goes on to the next one listed or to SETTLING. -/
theorem switchAnswerDecidesStation : Obligations.SwitchAnswerDecidesStation := by
  intro s r x p data live active released pending switching window owner op current bypassing asked answered damaged heard
    decides
  have state : s.loop.state.matches = true := by rw [switching]; rfl
  have decided : ∀ (c : Instr) (o : Outcome40) (st : Option StationState) (k : Stats),
      exec c s = .next (((s.heardLast k).switchDecided x o st).settle s) →
      decides c o (st.getD s.stations[p].state) k := by
    intro c o st k run
    rw [switchDecided_place current] at run
    let u : State := { s.heardLast k with
      stations := s.stations.set p { s.stations[p] with state := st.getD s.stations[p].state } }
    refine ⟨_, run, fun unlisted => ?_, fun a behind high listed first moves => ?_⟩
    · exact .settle_switchNext_none (u := u) (y := { x with outcomes := x.outcomes.set p o }) s released pending unlisted
    · refine .settle_switchNext_first (u := u) (y := { x with outcomes := x.outcomes.set p o }) s released pending active
        switching behind high listed first fun ⟨bypasses, bypassed⟩ => moves ⟨bypasses, ?_⟩
      exact (congrArg Station.state (station_set_other (u := s.heardLast k) (p := p) (by omega) _)).symm.trans bypassed
  have hand : ∀ (k : Stats) (o : FrameOutcome), (s.heardLast k).hand r.owner o = (s.heardLast k).switchOutcome o := by
    rw [owner]; exact fun _ _ => rfl
  have reply := fun ack ready => exec_replyArrival_last live window state ack ready data
  have bad := exec_badCheckFrame_last live window state
  simp only [hand] at reply bad
  have holds : ∀ k, (s.heardLast k).loop.op = some (.reconfigure x) := fun _ => op
  have shown : ∀ st : StationState, (if bypassing then some st else none).getD s.stations[p].state =
      if bypassing = true then st else s.stations[p].state := fun st => by cases bypassing <;> rfl
  refine ⟨fun ready same first => decided _ _ (some (if bypassing = true then .bypassed else .present)) _ ?_,
    fun ready other => decided _ _ (some (if bypassing = true then .bypassed else .unknown)) _ ?_, fun ready => ?_, fun type => ?_, fun last => decided _ _ none _ ?_, fun left => ⟨_, bad, ?_⟩⟩
  · rw [reply, switchOutcome_already (holds _) ready same first]
  · rw [reply, switchOutcome_switched (holds _) ready other]
  · rw [← shown]
    exact decided _ _ _ _ (by rw [reply, switchOutcome_refused (holds _)])
  · rw [← shown]
    exact decided _ _ _ _ (by
      rw [exec_frameReturned_last live window (by simp [LoopState.returns, type, switching]), hand, switchOutcome_returned (holds _)])
  · rw [bad, switchOutcome_checkFailure (holds _) last]
  · rw [switchOutcome_retry (holds _) left]
    generalize ({ x with retries := x.retries - 1, resent := true } : Reconfigure) = again
    have same : ((s.heardLast damaged).setLoop fun l =>
        { l with op := some (.reconfigure again), sendDue := true }).switchSent again =
        ({ s with loop := heard damaged } : State).switchSent again := rfl
    rw [← same]
    exact .settle_switchSent _ s again active switching rfl rfl
      (released_of_op released rfl rfl fun gone => by cases gone) (.inl pending)

end

section
/-! The SYNC frame's arrival (R54, R62, R63, R66). -/

namespace Sys2Proof.Machine

open Sys2Proof

variable {s : State} {pattern : Word}

/-- The pattern of an attempt's SYNC frame (R62). -/
theorem syncFrame_data (attempt : Nat) : (syncFrame attempt).data = 0x5AC39600 + BitVec.ofNat 32 attempt :=
  BitVec.ofNat_add _ _

/-- Where frames are not matched, one that matching cannot place is discarded (R54). -/
theorem sequenceFault_unmatched (unmatched : s.loop.state.matches = false) : s.sequenceFault = s := if_neg (by simp [unmatched])

theorem syncArrives_opens (syncing : s.loop.state = .syncing) (waits : s.loop.syncWaits = true)
    (awaited : pattern = 0x5AC39600 + BitVec.ofNat 32 s.loop.attempt) : s.syncArrives pattern = s.enterOpen := by
  unfold State.syncArrives
  rw [if_pos ⟨syncing, waits⟩, if_pos (awaited.trans (syncFrame_data _).symm)]

theorem syncArrives_discards (unmatched : s.loop.state.matches = false)
    (other : s.loop.state = .syncing → s.loop.syncWaits = true → pattern ≠ 0x5AC39600 + BitVec.ofNat 32 s.loop.attempt) :
    s.syncArrives pattern = s := by
  unfold State.syncArrives
  split
  · rename_i waits
    exact if_neg fun same => other waits.1 waits.2 (same.trans (syncFrame_data _))
  · exact sequenceFault_unmatched unmatched

theorem completeOp_none (r : Result) (op : s.loop.op = none) : s.completeOp r = s := by
  simp only [State.completeOp, op]

/-- In OPEN with no context ready to be granted nothing follows (R50). -/
theorem calm_of_silent (opened : s.loop.state = .opened) (due : s.loop.sendDue = false) (released : s.released = [])
    (pending : s.intake.pendingList = []) (silent : ∀ i, (s.ctx i).eligible = false) : s.calm = true :=
  (calm_iff s).2 ⟨fun _ => pick_none s silent, fun ⟨draining, _⟩ => by simp [opened] at draining,
    fun ⟨one, _⟩ => by simp [due] at one, released, .inl pending⟩

end Sys2Proof.Machine

open Sys2Proof Sys2Proof.Machine

/-- Settles O56: the awaited SYNC completes the loop operation in OPEN, and any other is discarded. -/
theorem matchingSyncOpensLoop : Obligations.MatchingSyncOpensLoop := by
  intro s pattern live opened
  have run : exec (.syncArrival pattern) s = .next ((s.framed.syncArrives pattern).settle s) :=
    congrArg Host.Outcome.next (event_eq live _)
  refine ⟨fun syncing waits awaited released pending silent => ?_, fun calm elsewhere => ⟨_, run, ?_⟩⟩
  · let v : State := { s with loop := { opened with op := s.loop.op } }
    rw [syncArrives_opens (s := s.framed) syncing waits awaited, show s.framed.enterOpen = v.completeOp .done from rfl] at run
    have leaves : ∀ u : State, v.completeOp .done = u → u.contexts = s.contexts → u.loop = opened → u.released = [] →
        u.intake.pendingList = s.intake.pendingList → ∃ t, exec (.syncArrival pattern) s = .next t ∧ Wakes u t := by
      intro u effect contexts loop released' list
      refine ⟨_, run, ?_⟩
      rw [effect]
      exact .settle u s (calm_of_silent (by rw [loop]) (by rw [loop]) released' (list.trans pending) fun i => by
        rw [State.ctx, contexts]; exact silent i)
    refine ⟨fun op => leaves _ ?_ rfl rfl (released_of_op released rfl rfl fun _ => op) rfl,
      fun j z op slot unchecked => leaves _ (completeOp_restart (s := v) .done op slot) rfl rfl (released_of_no_checking unchecked) rfl,
      fun x z op slot unchecked => leaves _ (completeOp_reconfigure (s := v) .done op slot) rfl rfl
        (released_of_no_checking unchecked) rfl⟩
    rw [completeOp_none (s := v) .done op]
    simp only [v, op, opened]
  · have unmatched : s.loop.state.matches = false := by
      rcases elsewhere with state | state | state | ⟨state, -⟩ <;> rw [state] <;> rfl
    have other : s.loop.state = .syncing → s.loop.syncWaits = true → pattern ≠ 0x5AC39600 + BitVec.ofNat 32 s.loop.attempt :=
      fun syncing waits => by simpa [syncing, waits] using elsewhere
    rw [syncArrives_discards (s := s.framed) unmatched other]
    exact .settle _ s (calm_of_heard calm rfl rfl rfl rfl)

end

section
/-! A loss of ring order: what counts as one, and the recovery or the settling that it starts (R54, R57 to R60, R84). -/

namespace Sys2Proof.Machine

open Sys2Proof

variable {s : State}

/-! ### Frames that matching cannot place (R56, R57) -/

theorem sequenceFault_matched (matched : s.loop.state.matches = true) :
    s.sequenceFault = (s.count fun k => { k with sequenceFaults := satInc k.sequenceFaults }).lostOrder := if_pos matched

/-- A REPLY that is not the oldest record's. -/
theorem replyArrives_misplaced {q : BitVec 3} {st : BitVec 6} (ack ready : Bool) (data : Word)
    (other : ∀ r ∈ s.loop.window.head?, ¬ (r.sequence = q ∧ r.frame.station = st)) :
    s.replyArrives q st ack ready data = s.sequenceFault := by
  unfold State.replyArrives
  split
  · rename_i r rest window
    exact if_neg fun ⟨_, mine⟩ => other r (by simp [window]) mine
  · rfl

/-- A returned frame that is not the oldest record's, or not of the loop state's kind. -/
theorem frameReturns_misplaced {f : LoopFrame} (kind : f.type = 1 ∨ f.type = 5)
    (other : (∀ r ∈ s.loop.window.head?, r.frame ≠ f) ∨ (f.type = 5 ↔ s.loop.state ≠ .switching)) :
    s.frameReturns f = s.sequenceFault := by
  unfold State.frameReturns
  split
  · rename_i r rest window
    refine if_neg fun ⟨returns, mine⟩ => ?_
    rcases other with other | wrong
    · exact other r (by simp [window]) mine
    · rcases kind with command | switch
      · have switching : s.loop.state = .switching := by simpa [command] using wrong
        simp [LoopState.returns, command, switching] at returns
      · simp [LoopState.returns, switch, wrong.1 switch] at returns
  · rfl

/-- A SYNC where none is awaited. -/
theorem syncArrives_misplaced (pattern : Word) (other : s.loop.state ≠ .syncing) :
    s.syncArrives pattern = s.sequenceFault := if_neg fun waits => other waits.1

theorem deadlineExpires_matched {r : InFlight} {rest : List InFlight} (window : s.loop.window = r :: rest)
    (timed : r.deadline.isSome = true) (matched : s.loop.state.matches = true) : s.deadlineExpires =
      (s.count fun k => { k with replyTimeouts := satInc k.replyTimeouts }).lostOrder :=
  if_pos (by simp [State.deadlineRuns, window, timed, matched])

theorem deadlineExpires_unmatched (unmatched : s.loop.state.matches = false) : s.deadlineExpires = s := by
  refine if_neg ?_
  unfold State.deadlineRuns
  split <;> simp [unmatched]

theorem lineLost_latched (latched : s.loop.lineLoss = true) : s.lineLost = s := if_pos latched

theorem lineLost_first (fresh : s.loop.lineLoss = false) :
    s.lineLost = (s.setLoop fun l => { l with lineLoss := true, receiver := .lost 0 0 }).lostOrder := if_neg (by simp [fresh])

theorem lostOrder_unmatched (unmatched : s.loop.state.matches = false) : s.lostOrder = s := by
  unfold State.lostOrder
  split
  · rename_i opened; simp [opened, LoopState.matches] at unmatched
  · rename_i draining; simp [draining, LoopState.matches] at unmatched
  · rename_i switching; simp [switching, LoopState.matches] at unmatched
  · rfl

/-! ### QUIET (R60) -/

/-- An abandoned frame leaves what an outcome leaves (R25, R60). -/
theorem Carries.hand_abandoned (w : Owner) : Carries s (s.hand w .abandoned) := by
  cases w with
  | context i =>
    show Carries s (s.deliver i .abandoned)
    unfold State.deliver
    split
    · unfold State.probeOutcome
      dsimp only
      split
      · exact (Carries.refl s).endCancelled i
      · exact (Carries.refl s).halt i _
    · unfold State.elementOutcome
      dsimp only
      split
      · exact (Carries.refl s).endCancelled i
      · exact (Carries.refl s).stepError i _ _ _
  | reconfigure =>
    show Carries s (s.switchOutcome .abandoned)
    unfold State.switchOutcome
    split
    · exact .refl s
    · exact .refl s

theorem Carries.abandoned (window : List InFlight) : Carries s (window.foldl (fun s r => s.hand r.owner .abandoned) s) := by
  induction window generalizing s with
  | nil => exact .refl s
  | cons r rest ih => exact (Carries.hand_abandoned r.owner).trans ih

/-- The state with its window abandoned and the recovery counted, before an owner is told (R60). -/
def State.quieted (s : State) : State :=
  { s with loop := { s.loop with
      state := .quiet, window := [], quietTimer := some (2 * s.engine.config.replyTimeout),
      afterQuiet := if s.loop.state = .draining then .switching else .syncing,
      stats := { s.loop.stats with recoveries := satInc s.loop.stats.recoveries } } }

theorem carries_enterQuiet (s : State) : Carries s.quieted s.enterQuiet := Carries.abandoned s.loop.window

/-- In QUIET a turn changes of the Loop Port at most that a frame is due. -/
theorem turn_quiet {t : State} (quiet : s.loop.state = .quiet) (turns : s.turn = some t) :
    ∃ due, t.loop = { s.loop with sendDue := due } := by
  unfold State.turn at turns
  split at turns
  · cases turns; exact ⟨_, loop_releaseCtx (s.chose _) _⟩
  · split at turns
    · rename_i starts; cases turns; exact ⟨_, loop_startPending s starts⟩
    · rw [if_neg fun drained => by simp [quiet] at drained] at turns
      split at turns
      · cases turns
        have own : s.sendOwn = s.setLoop fun l => { l with sendDue := false } := by unfold State.sendOwn; rw [quiet]
        exact ⟨false, by rw [own]; rfl⟩
      · simp [State.grant, State.canGrant, quiet] at turns

theorem progress_quiet (n : Nat) (quiet : s.loop.state = .quiet) : ∃ due, (progress n s).loop = { s.loop with sendDue := due } := by
  induction n generalizing s with
  | zero => exact ⟨_, rfl⟩
  | succ n ih =>
    unfold progress
    split
    · rename_i t turns
      obtain ⟨due, same⟩ := turn_quiet quiet turns
      obtain ⟨due', later⟩ := ih (s := t) (by rw [same]; exact quiet)
      exact ⟨due', by rw [later, same]⟩
    · exact ⟨_, rfl⟩

/-- In QUIET the end of an event, outside QUIESCING, changes of the Loop Port at most that a frame is due. -/
theorem settle_quiet (before : State) (quiet : s.loop.state = .quiet) (working : s.engine.state ≠ .quiescing) :
    ∃ due, (s.settle before).loop = { s.loop with sendDue := due } := by
  obtain ⟨due, same⟩ := progress_quiet Config.eventBound quiet
  have engine := ((Turns.progress Config.eventBound s).reorderMarks s before).engine
  obtain ⟨custody, choices, marks, -⟩ := reorderMarks_eq (progress Config.eventBound s) s before
  unfold State.settle
  split
  · refine ⟨due, ((Wakes.settleIntake _ before).running (by rw [engine]; exact working)).2.trans ?_⟩
    rw [marks]
    exact same
  · exact ⟨_, rfl⟩

/-! ### Where nothing is matched -/

/-- The line-loss latch and the receiver's place leave a state as calm as it was. -/
theorem calm_of_latch {u : State} (calm : s.calm = true) {lineLoss : Bool} {receiver : Framing} (contexts : u.contexts = s.contexts)
    (store : u.store = s.store) (intake : u.intake = s.intake) (loop : u.loop = { s.loop with lineLoss, receiver }) :
    u.calm = true := by
  rw [← calm]
  have ctx : u.ctx = s.ctx := by funext j; simp only [State.ctx, contexts]
  simp only [State.calm, State.loopWaits, State.canGrant, State.pick, State.pickCadence, State.pickRequest, State.released,
    ctx, loop, store, intake]

end Sys2Proof.Machine

open Sys2Proof Sys2Proof.Machine

/-- Settles O57: each loss comes to `lostOrder` where frames are matched, and to the latch alone elsewhere. -/
theorem lostOrderStartsRecovery : Obligations.LostOrderStartsRecovery := by
  intro s c faults timeouts latch place live running faulty loss counted
  have event : ∀ f : State → State, Host.Outcome.next (s.event f) = (.next ((f s).settle s) : Host.Outcome State Fault Refusal) :=
    fun f => congrArg Host.Outcome.next (event_eq live f)
  have kinds : (∀ pattern, c = .syncArrival pattern → s.loop.state ≠ .syncing) →
      (exec c s = .next (s.framed.sequenceFault.settle s) ∧ faulty) ∨
      (exec c s = .next (s.lineLost.settle s) ∧ s.loop.lineLoss = false ∧ faults = s.loop.stats.sequenceFaults ∧
        timeouts = s.loop.stats.replyTimeouts ∧ latch = true ∧ place = .lost 0 0) ∨
      (exec c s = .next (s.deadlineExpires.settle s) ∧ (∃ r rest, s.loop.window = r :: rest ∧ r.deadline.isSome = true) ∧
        faults = s.loop.stats.sequenceFaults ∧ timeouts = satInc s.loop.stats.replyTimeouts ∧ latch = s.loop.lineLoss ∧
        place = s.loop.receiver) := by
    intro unawaited
    have misplaced : ∀ {f : State → State}, f s = s.framed.sequenceFault →
        (.next (s.event f) : Host.Outcome State Fault Refusal) = .next (s.framed.sequenceFault.settle s) :=
      fun {f} fault => fault ▸ event f
    rcases loss with ⟨rfl, known⟩ | ⟨⟨pattern, rfl⟩, known⟩ | ⟨⟨q, st, ack, ready, data, rfl, other⟩, known⟩ |
      ⟨⟨f, rfl, kind, other⟩, known⟩ | ⟨rfl, known⟩ | ⟨rfl, known⟩
    · exact .inl ⟨misplaced rfl, known⟩
    · exact .inl ⟨misplaced (syncArrives_misplaced (s := s.framed) pattern (unawaited pattern rfl)), known⟩
    · exact .inl ⟨misplaced (replyArrives_misplaced (s := s.framed) ack ready data other), known⟩
    · exact .inl ⟨misplaced (frameReturns_misplaced (s := s.framed) kind other), known⟩
    · exact .inr (.inl ⟨event _, known⟩)
    · exact .inr (.inr ⟨event _, known⟩)
  have matched : s.loop.state.matches = true → exec c s = .next (({ s with loop := counted } : State).lostOrder.settle s) := by
    intro state
    rcases kinds (fun _ _ syncing => by rw [syncing] at state; cases state) with
      ⟨run, rfl, rfl, rfl, rfl⟩ | ⟨run, fresh, rfl, rfl, rfl, rfl⟩ | ⟨run, ⟨r, rest, window, timed⟩, rfl, rfl, rfl, rfl⟩
    · rw [run, sequenceFault_matched (s := s.framed) state]; rfl
    · rw [run, lineLost_first fresh]; rfl
    · rw [run, deadlineExpires_matched window timed state]; rfl
  have unmatched : s.loop.state.matches = false → (∀ pattern, c ≠ .syncArrival pattern) →
      exec c s = .next (({ s with loop := { s.loop with lineLoss := latch, receiver := place } } : State).settle s) := by
    intro state silent
    rcases kinds (fun pattern sync => absurd sync (silent pattern)) with
      ⟨run, rfl, rfl, rfl, rfl⟩ | ⟨run, fresh, rfl, rfl, rfl, rfl⟩ | ⟨run, -, rfl, rfl, rfl, rfl⟩
    · rw [run, sequenceFault_unmatched (s := s.framed) state]; rfl
    · rw [run, lineLost_first fresh,
        lostOrder_unmatched (s := s.setLoop fun l => { l with lineLoss := true, receiver := .lost 0 0 }) state]
      rfl
    · rw [run, deadlineExpires_unmatched state]
  refine ⟨fun state => ?_, fun x switching op released pending => ?_, fun calm silent state => ?_, fun calm latched => ?_⟩
  · let v : State := { s with loop := counted }
    have quiets : v.lostOrder = v.enterQuiet := by
      unfold State.lostOrder
      rcases state with e | e <;> simp only [v, counted, e]
    have run := matched (by rcases state with e | e <;> rw [e] <;> rfl)
    rw [quiets] at run
    have carries := carries_enterQuiet v
    have settles := carries.settles (Settles.settle _ s)
    obtain ⟨due, loop⟩ := settle_quiet (s := v.enterQuiet) s (by rw [carries.loop]; rfl)
      (by rw [carries.engine]; exact fun quiescing => by rw [show s.engine.state = .quiescing from quiescing] at running; cases running)
    rw [carries.loop] at loop
    exact ⟨_, run, by rw [loop]; rfl, by rw [loop]; rfl, by rw [loop]; rfl, by rw [loop]; rfl,
      { settles with window := fun _ state => by rcases state with e | e <;> cases e }⟩
  · have run := matched (by rw [switching]; rfl)
    have settling : ({ s with loop := counted } : State).lostOrder = { s with loop := { counted with
        state := .settling, window := [], sendDue := false, settleTimer := some s.engine.config.settleInterval,
        op := some (.reconfigure { x with timedOut := x.current }) } } := by
      simp only [State.lostOrder, counted, switching, State.switchTimeout, op]
      rfl
    rw [settling] at run
    exact ⟨_, run, .settle _ s (calm_of_recovery (released_of_op released rfl rfl fun gone => by cases gone) (.inl pending)
      ⟨nofun, nofun⟩ (.inl rfl))⟩
  · refine ⟨_, unmatched (by rcases state with e | e | e | e <;> rw [e] <;> rfl) silent, ?_⟩
    exact .settle _ s (calm_of_latch calm rfl rfl rfl rfl)
  · refine ⟨_, (event _).trans ?_, .settle s s calm⟩
    rw [lineLost_latched latched]

end

section
/-! The outcome of a SURVEY's probe: the station's record, the next probe, and the records of a SURVEY that completes (R60, R75
to R77). -/

namespace Sys2Proof.Machine

open Sys2Proof

/-! ### The records -/

@[simp] theorem le_length (n v : Nat) : (le n v).length = n := by
  induction n generalizing v with
  | zero => rfl
  | succ n ih => rw [le, List.length_cons, ih]

theorem surveyBytes_length (x : Station) : x.surveyBytes.length = 8 := by simp [Station.surveyBytes, zeros, le32]

section
variable {α : Type} {f : α → List Byte} {n : Nat} (length : ∀ a, (f a).length = n)
include length

/-- Records of `n` bytes each, laid end to end. -/
theorem flatMap_length (l : List α) : (l.flatMap f).length = n * l.length := by
  induction l with
  | nil => rfl
  | cons a l ih => rw [List.flatMap_cons, List.length_append, ih, length, List.length_cons, Nat.mul_succ, Nat.add_comm]

/-- The record at a place of such a list. -/
theorem flatMap_record (l : List α) (k : Nat) (near : k < l.length) : ((l.flatMap f).drop (n * k)).take n = f l[k] := by
  induction l generalizing k with
  | nil => cases near
  | cons a l ih =>
    rw [List.flatMap_cons]
    cases k with
    | zero => rw [Nat.mul_zero, List.drop_zero, List.take_left' (length a)]; rfl
    | succ k =>
      rw [Nat.mul_succ, Nat.add_comm, ← List.drop_drop, List.drop_left' (length a)]
      exact ih k (Nat.lt_of_succ_lt_succ near)

end

variable {s u : State} {i : CtxId} {c : Context} {p : Fin 40}

theorem surveyRecords_length (s : State) : s.surveyRecords.length = 320 := by
  simp [State.surveyRecords, flatMap_length surveyBytes_length]

theorem surveyRecords_record (s : State) (m : Fin 40) :
    (s.surveyRecords.drop (8 * m.val)).take 8 = s.stations[m].surveyBytes := by
  unfold State.surveyRecords
  rw [flatMap_record surveyBytes_length s.stations.toList m.val (by simp [m.isLt])]
  simp

/-- The records with one station decided (R76, R77). -/
theorem surveyRecords_set (s : State) (x : Station) (m : Fin 40) :
    ((({ s with stations := s.stations.set p x } : State).surveyRecords).drop (8 * m.val)).take 8 =
      (if m = p then x else s.stations[m]).surveyBytes := by
  rw [surveyRecords_record]
  show ((s.stations.set p.val x)[m.val]).surveyBytes = _
  rw [Vector.getElem_set]
  simp only [Fin.ext_iff, eq_comm (a := p.val)]
  split <;> rfl

/-! ### The walk (R75, R77) -/

theorem station_place (q : Fin 40) : s.station (q.val + 1) = s.stations[q] := by
  have place : stationPlace (q.val + 1) = some q := by simp [stationPlace, q.isLt]
  simp only [State.station, place]

theorem modStation_place (f : Station → Station) :
    s.modStation (p.val + 1) f = { s with stations := s.stations.set p (f s.stations[p]) } := by
  have place : stationPlace (p.val + 1) = some p := by simp [stationPlace, p.isLt]
  simp only [State.modStation, place]

/-- The record of a context that probes an address (R75). -/
def Context.probing (c : Context) (a retries : Nat) : Context :=
  Context.begun { c with element := a, elem := identExchange a, remaining := 1 } retries

/-- The walk goes on to the next address, unless that is BYPASSED (R75). -/
theorem surveyNext_probes {a : Nat} (going : c.cancel = none) (next : c.element + 1 = a) (near : a ≤ 40)
    (present : (u.station a).state ≠ .bypassed) (up : u.loop.state ≠ .down) :
    (u.setCtx i c).surveyNext i = u.setCtx i (c.probing a u.engine.config.retryLimit) := by
  have probes : (u.setCtx i c).surveyNext i =
      (u.setCtx i { c with element := a, elem := identExchange a, remaining := 1 }).beginElement i := by
    simp [State.surveyNext, surveyWalk, going, next, present, Nat.not_lt.2 near]
  rw [probes, beginElement_inline up rfl]
  rfl

/-- Behind the last address the SURVEY completes (R77). -/
theorem surveyNext_completes (going : c.cancel = none) (last : 40 ≤ c.element) :
    (u.setCtx i c).surveyNext i = (u.setCtx i c).completeSurvey i .done := by
  simp [State.surveyNext, surveyWalk, going, Nat.lt_succ_of_le last]

/-- The done record of a SURVEY that ends with a result (R77). -/
def Context.surveyRecord (c : Context) (result : Nat) : DoneRecord :=
  { result, stepError := (c.failing.map fun f => f.error.code).getD 0,
    station := (c.failing.map fun f => f.station.toNat).getD 0,
    countA := BitVec.ofNat 32 c.counts.probed, countB := BitVec.ofNat 32 c.counts.present }

/-- A SURVEY that is not cancelled completes: its 40 records written, then its done record, its context IDLE (R77). -/
theorem completeSurvey_eq {z : Slot} (r : Result) (going : c.cancel = none) (slot : u.slot c.owner = some z) :
    (u.setCtx i c).completeSurvey i r =
      ((u.issueAll [.write (u64 (u.bodyOf c.owner) 0x00) u.surveyRecords]).finished c.owner z (c.surveyRecord r.code) 0x10
        (le 4 c.counts.absent ++ le 4 c.counts.skipped ++ le 4 c.counts.unresolved)).setCtx i c.rested := by
  have some : u.surveyRecords ≠ [] := fun none => by
    have long := surveyRecords_length u
    rw [none] at long
    cases long
  have written : (u.setCtx i c).post (u64 ((u.setCtx i c).bodyOf c.owner) 0x00) (u.setCtx i c).surveyRecords =
      (u.issueAll [.write (u64 (u.bodyOf c.owner) 0x00) u.surveyRecords]).setCtx i c := post_eq _ _ some
  have kept : ((u.issueAll [.write (u64 (u.bodyOf c.owner) 0x00) u.surveyRecords]).setCtx i c).slot c.owner = Option.some z := slot
  unfold State.completeSurvey
  simp only [State.ctx_setCtx_same, written, finish_eq _ _ _ _ _ _ kept, setCtx_finished, toIdle_eq]
  simp only [Context.result, going]
  rfl

/-- Line loss in OPEN with one record in the window abandons that record (R59, R60). -/
theorem lineLost_only {r : InFlight} (opened : s.loop.state = .opened) (window : s.loop.window = [r])
    (fresh : s.loop.lineLoss = false) : s.lineLost =
      (s.setLoop fun l => { l with lineLoss := true, receiver := .lost 0 0 }).quieted.hand r.owner .abandoned := by
  rw [lineLost_first fresh]
  generalize lost : (s.setLoop fun l => { l with lineLoss := true, receiver := .lost 0 0 }) = v
  have same : v.loop.window = [r] := by rw [← lost]; exact window
  have quiets : v.lostOrder = v.loop.window.foldl (fun s r => s.hand r.owner .abandoned) v.quieted := by
    simp only [State.lostOrder, show v.loop.state = .opened by rw [← lost]; exact opened]
    rfl
  rw [quiets, same]
  rfl

/-! ### The outcome of a probe (R76) -/

section
variable (mine : u.ctx i = c) (job : c.job = .survey)
include mine job

theorem deliver_probe (o : FrameOutcome) : u.deliver i o = u.probeOutcome i o := by
  unfold State.deliver
  rw [mine, job]

omit job in
/-- A decided station: its record set, the count taken, and the walk goes on (R76). -/
theorem surveyNext_decided (element : c.element = p.val + 1) (f : Station → Station) (g : SurveyCounts → SurveyCounts) :
    ((u.modStation c.element f).surveyCount i g).surveyNext i =
      (({ u with stations := u.stations.set p (f u.stations[p]) } : State).setCtx i
        { c with counts := g c.counts }).surveyNext i := by
  have set := modStation_place (s := u) (p := p) f
  rw [← element] at set
  rw [set]
  subst mine
  rfl

theorem deliver_probe_reply (element : c.element = p.val + 1) (ack ready : Bool) (data : Word) :
    u.deliver i (.reply ack ready data) = (({ u with
      stations := u.stations.set p { u.stations[p] with state := .present, ident := if ack = true then data else 0 } } :
        State).setCtx i { c with counts := { c.counts with
          probed := c.counts.probed + 1, present := c.counts.present + 1 } }).surveyNext i := by
  rw [deliver_probe mine job]
  unfold State.probeOutcome
  rw [mine]
  exact surveyNext_decided mine element (fun x => { x with state := .present, ident := if ack = true then data else 0 })
    fun k => { k with probed := k.probed + 1, present := k.present + 1 }

theorem deliver_probe_returned (element : c.element = p.val + 1) : u.deliver i .returned = (({ u with
    stations := u.stations.set p { u.stations[p] with state := .absent, ident := 0 } } : State).setCtx i
      { c with counts := { c.counts with probed := c.counts.probed + 1, absent := c.counts.absent + 1 } }).surveyNext i := by
  rw [deliver_probe mine job]
  unfold State.probeOutcome
  rw [mine]
  exact surveyNext_decided mine element (fun x => { x with state := .absent, ident := 0 })
    fun k => { k with probed := k.probed + 1, absent := k.absent + 1 }

theorem deliver_probe_unresolved (going : c.cancel = none) (last : c.retries = 0) : u.deliver i .checkFailure =
    (u.setCtx i { c with
      counts := { c.counts with probed := c.counts.probed + 1, unresolved := c.counts.unresolved + 1 },
      failing := some (c.failing.getD { step := 0, error := .checkFail, station := c.elem.station }) }).surveyNext i := by
  have first : ∀ y : Failing, c.failing.or (some y) = some (c.failing.getD y) := fun y => by cases c.failing <;> rfl
  rw [deliver_probe mine job]
  simp [State.probeOutcome, mine, going, last, State.surveyCount, first]

/-- An abandoned probe ends the walk with LOOP LOST (R60, R76). -/
theorem deliver_probe_abandoned {z : Slot} (going : c.cancel = none) (slot : u.slot c.owner = some z) :
    u.deliver i .abandoned =
      ((u.issueAll [.write (u64 (u.bodyOf c.owner) 0x00) u.surveyRecords]).finished c.owner z
        { result := 14, stepError := 3, station := c.elem.station.toNat, countA := BitVec.ofNat 32 c.counts.probed,
          countB := BitVec.ofNat 32 c.counts.present } 0x10
        (le 4 c.counts.absent ++ le 4 c.counts.skipped ++ le 4 c.counts.unresolved)).setCtx i
      { c with failing := some { step := 0, error := .loopLost, station := c.elem.station } }.rested := by
  rw [deliver_probe mine job]
  have halted : u.probeOutcome i .abandoned = (u.setCtx i
      { c with failing := some { step := 0, error := .loopLost, station := c.elem.station } }).completeSurvey i .stepFailed := by
    simp [State.probeOutcome, mine, going, State.halt, job]
  rw [halted, completeSurvey_eq (c := { c with failing := some { step := 0, error := .loopLost, station := c.elem.station } })
    _ going slot]
  rfl

end

end Sys2Proof.Machine

open Sys2Proof Sys2Proof.Machine

/-- Settles O30: the probe's outcome decides the station, and the walk goes on, or completes behind address 40. -/
theorem probeDecidesStation : Obligations.ProbeDecidesStation := by
  intro s r i z p live opened window owner released pending busy job going element slot c k heard replied damaged completes
    decides
  have state : s.loop.state.matches = true := by rw [opened]; rfl
  have mine : ∀ stats, (s.heardLast stats).ctx i = c := fun _ => rfl
  replace element : c.element = p.val + 1 := element
  have decided : ∀ (e : Instr) (x : Station) (stats : Stats) (n : SurveyCounts) (f : Option Failing),
      exec e s = .next (((({ s.heardLast stats with stations := s.stations.set p x } : State).setCtx i
        { c with counts := n, failing := f }).surveyNext i).settle s) →
      decides e x { heard with stats } n f := by
    intro e x stats n f run
    let v : State := { s.heardLast stats with stations := s.stations.set p x }
    refine ⟨fun q next present => ⟨_, run, ?_⟩, fun last => ?_⟩
    · have stands : (v.station (q.val + 1)).state ≠ .bypassed := by
        rw [station_place]
        show ((s.stations.set p x)[q.val]).state ≠ .bypassed
        rwa [Vector.getElem_set_ne _ _ (by omega)]
      have address : (BitVec.ofNat 6 (q.val + 1)).toNat = q.val + 1 := by rw [BitVec.toNat_ofNat]; omega
      rw [surveyNext_probes (u := v) (c := { c with counts := n, failing := f }) (a := q.val + 1) going
        (by show c.element + 1 = _; omega) q.isLt stands (by rw [show v.loop.state = .opened from opened]; decide)]
      exact .settle_opened s opened busy released pending rfl ⟨_, _, rfl⟩ rfl nofun fun _ _ => by
        show (v.station (BitVec.ofNat 6 (q.val + 1)).toNat).state ≠ .bypassed
        rw [address]; exact stands
    · have ends : (v.setCtx i { c with counts := n, failing := f }).surveyNext i = _ :=
        (surveyNext_completes (c := { c with counts := n, failing := f }) going (by show 40 ≤ c.element; omega)).trans
          (completeSurvey_eq (c := { c with counts := n, failing := f }) .done going slot)
      refine ⟨_, Context.rested { c with counts := n, failing := f }, v.surveyRecords, run, rfl, surveyRecords_length v,
        surveyRecords_set (p := p) (s.heardLast stats) x, ?_⟩
      rw [ends]
      exact .settle_opened_silent s opened busy released pending rfl ⟨_, _, rfl⟩ rfl nofun (not_eligible nofun)
  have same : s.stations.set p s.stations[p] = s.stations := Vector.set_getElem_self ..
  have bad := exec_badCheckFrame_last live window state
  rw [owner] at bad
  refine ⟨fun ack ready data => decided _ _ _ _ _ ?_, fun type => decided _ _ _ _ _ ?_, fun last => decided _ _ _ _ _ ?_,
    fun left present => ⟨_, bad, ?_⟩, fun fresh => ?_⟩
  · rw [exec_replyArrival_last live window state, owner]
    exact congrArg (fun u : State => Host.Outcome.next (u.settle s)) (deliver_probe_reply (mine _) job element ack ready data)
  · rw [exec_frameReturned_last live window (by simp [LoopState.returns, type, opened]), owner]
    exact congrArg (fun u : State => Host.Outcome.next (u.settle s)) (deliver_probe_returned (mine _) job element)
  · rw [bad, same]
    exact congrArg (fun u : State => Host.Outcome.next (u.settle s)) (deliver_probe_unresolved (mine _) job going last)
  · have retries := deliver_retry (u := s.heardLast damaged.stats) (i := i) going left
    rw [show ((s.heardLast damaged.stats).hand (.context i) .checkFailure) = _ from retries]
    exact .settle_opened s opened busy released pending rfl ⟨_, _, rfl⟩ rfl nofun fun free _ =>
      present.resolve_left (by simp [free])
  · let v : State := s.setLoop fun l => { l with lineLoss := true, receiver := .lost 0 0 }
    have run : exec .lineLoss s = .next (s.lineLost.settle s) := congrArg Host.Outcome.next (event_eq live _)
    have ends := deliver_probe_abandoned (u := v.quieted) (i := i) (c := c) rfl job going slot
    rw [lineLost_only opened window fresh, owner, show v.quieted.hand (.context i) .abandoned = _ from ends] at run
    refine ⟨_, Context.rested { c with failing := some { step := 0, error := .loopLost, station := c.elem.station } },
      s.surveyRecords, run, rfl, surveyRecords_length s, fun m => ?_, ?_⟩
    · have records := surveyRecords_set (p := p) s s.stations[p] m
      rwa [same] at records
    · rw [same]
      have syncing : v.quieted.loop.afterQuiet = .syncing :=
        if_neg fun draining => by simp [show s.loop.state = .draining from draining] at opened
      rw [← syncing]
      exact .settle _ s (calm_of_recovery (released_of_context (i := i) released rfl rfl rfl (.inl nofun)) (.inl pending)
        ⟨nofun, nofun⟩ (busy.symm.imp And.left fun sending free => by
          rw [show s.loop.transmitting = none from free] at sending; cases sending))

end

section
/-! SOFT RESET: what a write of 3 to ENGINE COMMAND leaves of each block and of each station record (R72, R157, R163). -/

namespace Sys2Proof.Machine

open Sys2Proof

variable {s : State}

/-- While the window answers, a word written to offset 08h is an ENGINE COMMAND (R157, R166). -/
theorem registerWrite_command (answers : s.windowAnswers = true) (v : Word) : s.registerWrite 0x08 4 v = s.writeCommand v :=
  if_pos ⟨answers, rfl⟩

/-- The command 3 is SOFT RESET (R157). -/
theorem writeCommand_softReset (s : State) : s.writeCommand 3 = s.softReset := rfl

theorem exec_softReset (answers : s.windowAnswers = true) : exec .softReset s = .next s.softReset :=
  congrArg Host.Outcome.next ((registerWrite_command answers 3).trans (writeCommand_softReset s))

/-- Every block but the station table has its reset value, but for what R163 keeps. -/
theorem softReset_blocks (s : State) : { s.softReset with stations := s.stations } =
    { State.reset with
      pending := s.pending, link := s.link, choices := s.choices, pins := s.pins, stations := s.stations,
      engine := { Engine.afterReset with anchorLow := s.engine.anchorLow, anchorHigh := s.engine.anchorHigh,
                                         messageEnable := s.engine.messageEnable },
      store := { State.reset.store with steps := s.store.steps } } := rfl

/-- A BYPASSED record keeps its state and its ident; every other one has its reset value (R72). -/
theorem Station.softReset_eq (x : Station) : x.softReset =
    if x.state = .bypassed then { x with attention := true } else { state := .unknown, attention := true, ident := 0 } := rfl

/-- Every station's record is reset by itself. -/
theorem softReset_station (s : State) (p : Fin 40) : s.softReset.stations[p] = s.stations[p].softReset :=
  getElem_mapTable _ _ _ p.isLt

end Sys2Proof.Machine

open Sys2Proof Sys2Proof.Machine

/-- Settles O13: the command's next state is `State.softReset`, block by block and station by station. -/
theorem softResetKeepsStepsAndBypass : Obligations.SoftResetKeepsStepsAndBypass := fun s answers =>
  ⟨s.softReset, exec_softReset answers, softReset_blocks s,
    fun p => (softReset_station s p).trans (Station.softReset_eq s.stations[p])⟩

end

section
/-! STOP CADENCE and RELEASE: what each makes of its cadence, by the cadence's state and its ring (R101 to R105). -/

namespace Sys2Proof.Machine

open Sys2Proof

variable {s u : State} {i : Fin 40} {b : Body} {n : Fin 8}

/-! ### STOP CADENCE -/

section
variable (fields : stopFieldsOk b = true) (number : (u8 b 0x00).toNat = n.val)
include fields number

theorem doStop_noCadence (idle : (s.cad n).state = .idle) : s.doStop i b = s.finish i { result := 10 } := by
  simp [State.doStop, fields, cadenceAt_eq number, idle, State.refuse, Result.code]

/-- The STOP's own record comes behind what the stop makes of the cadence (R104). -/
theorem doStop_stops (busy : (s.cad n).state ≠ .idle) (stop : s.cadenceStop n .requested = u)
    (p : (u.cad n).p = (s.cad n).p) (runs : (u.cad n).runsStarted = (s.cad n).runsStarted) :
    s.doStop i b = u.finish i { result := 0, countA := (s.cad n).p, countB := (s.cad n).runsStarted } := by
  simp [State.doStop, fields, cadenceAt_eq number, busy, stop, p, runs, Result.code]

end

/-- A cadence that stops already is left as it is (R103). -/
theorem cadenceStop_stopping (r : StopReason) (stopping : (s.cad n).state = .stopping) : s.cadenceStop n r = s := by
  simp [State.cadenceStop, stopping]

/-- A WAITING cadence that stops is IDLE, with its START frame finished and its hold removed (R103, R105). -/
theorem cadenceStop_idles {z : Slot} (r : StopReason) (waiting : (s.cad n).state = .waiting)
    (start : s.slot (s.cad n).startSlot = some z) :
    s.cadenceStop n r = ((s.finished (s.cad n).startSlot z
      { result := 16, stepError := r.code, stepIndex := (s.cad n).programStart.toNat, countA := (s.cad n).p,
        countB := (s.cad n).runsStarted } 0x20 (s.cad n).startBytes).dropHold (contextOf n)).setCad n
      { s.cad n with state := .idle, reason := r, trigger := none, owed := false } := by
  have idles := cadenceStop_waiting (s := s) (n := n) r waiting
  rw [setCad_self] at idles
  exact idles.trans (cadenceIdle_eq (k := { s.cad n with reason := r }) start)

/-- A RUNNING cadence that stops while its context awaits a reply is STOPPING, and the context flagged (R42, R103). -/
theorem cadenceStop_flags (r : StopReason) (running : (s.cad n).state = .running)
    (awaiting : (s.ctx (contextOf n)).state = .awaitingReply) (going : (s.ctx (contextOf n)).cancel = none) :
    s.cadenceStop n r = (s.setCad n { s.cad n with state := .stopping, reason := r }).setCtx (contextOf n)
      { s.ctx (contextOf n) with cancel := some .stop } := by
  have flags := cadenceStop_awaiting (s := s) r running awaiting going
  rwa [setCad_self] at flags

/-- Finishing a frame and writing another slot before it come in either order. -/
theorem setSlot_finished {j : Fin 40} (apart : j ≠ i) (y : Option Slot) (z : Slot) (d : DoneRecord) (o : Nat)
    (bytes : List Byte) : (s.setSlot i y).finished j z d o bytes = (s.finished j z d o bytes).setSlot i y := by
  have places : j.val ≠ i.val := fun e => apart (Fin.ext e)
  simp [State.finished, State.setSlot, State.resultWrites, State.frameAddr, Vector.set_comm _ _ places]

/-! A slot written first is a slot written last, past what changes another block. -/

theorem setCad_setSlot (y : Option Slot) (k : Cadence) : (s.setSlot i y).setCad n k = (s.setCad n k).setSlot i y := rfl

theorem setCtx_setSlot (y : Option Slot) (j : CtxId) (c : Context) :
    (s.setSlot i y).setCtx j c = (s.setCtx j c).setSlot i y := rfl

theorem dropHold_setSlot (y : Option Slot) (j : CtxId) : (s.setSlot i y).dropHold j = (s.dropHold j).setSlot i y := rfl

/-! ### RELEASE -/

theorem doRelease_badField (fields : releaseFieldsOk b = false) : s.doRelease i b = s.finish i { result := 2 } := by
  simp [State.doRelease, fields, State.refuse, Result.code]

/-- The field check of a RELEASE fails on its number or on one of its two must-be-zero fields (R101). -/
theorem releaseFieldsOk_eq_false_iff (b : Body) : releaseFieldsOk b = false ↔
    7 < (u8 b 0x00).toNat ∨ zeroAt b 0x01 3 = false ∨ zeroAt b 0x08 88 = false := by
  rw [← Bool.not_eq_true, releaseFieldsOk_iff, not_and_or, not_and_or, Nat.not_le, Bool.not_eq_true, Bool.not_eq_true]

section
variable (fields : releaseFieldsOk b = true) (number : (u8 b 0x00).toNat = n.val)
include fields number

theorem doRelease_noCadence (idle : (s.cad n).state = .idle) : s.doRelease i b = s.finish i { result := 10 } := by
  simp [State.doRelease, fields, cadenceAt_eq number, idle, State.refuse, Result.code]

variable (busy : (s.cad n).state ≠ .idle)
include busy

/-- An index outside C to P, counted modulo 2^32 from C (R101). -/
theorem doRelease_outside (outside : ((s.cad n).p - (s.cad n).c).toNat < (u32 b 0x04 - (s.cad n).c).toNat) :
    s.doRelease i b = s.finish i { result := 11, countA := (s.cad n).p, countB := (s.cad n).c } := by
  have refused : (s.cad n).releases (u32 b 0x04) = false := decide_eq_false (Nat.not_le.2 outside)
  simp [State.doRelease, fields, cadenceAt_eq number, busy, refused, Result.code]

theorem doRelease_moves (inside : (u32 b 0x04 - (s.cad n).c).toNat ≤ ((s.cad n).p - (s.cad n).c).toNat) :
    s.doRelease i b = (s.setCad n { s.cad n with c := u32 b 0x04, outstanding := false }).finish i
      { result := 0, countA := (s.cad n).p, countB := u32 b 0x04 } 0x08
      (le 4 ((s.cad n).ringSize.toNat - ((s.cad n).p - u32 b 0x04).toNat)) := by
  have releases : (s.cad n).releases (u32 b 0x04) = true := decide_eq_true inside
  simp only [State.doRelease, fields, cadenceAt_eq number, busy, releases, Bool.not_true, Bool.false_eq_true, if_false]
  rfl

end

end Sys2Proof.Machine

section
open Sys2Proof Sys2Proof.Machine

/-- Settles O40: the stop by the cadence's state, with the STOP's record behind it. -/
theorem stopCadenceByState : Obligations.StopCadenceByState := by
  intro s acc tag b i x n live taken slot fields number c y own
  let kept := s.setSlot i (some y)
  have stays : ¬ reachesLoop 5 = true := by decide
  have leaves : ∀ {u : State}, kept.doStop i b = u → ∃ t, exec (.stopCadence acc tag b) s = .next t ∧ Wakes u t :=
    fun effect => dispatch_wakes (fun _ => rfl) live taken slot effect (absurd · stays)
  have busy : ∀ {state : CadState}, c.state = state → state ≠ .idle → (kept.cad n).state ≠ .idle :=
    fun is other idle => other (is.symm.trans idle)
  refine ⟨fun idle => ?_, fun j z waiting start apart startSlot => ?_, fun running awaiting going => ?_,
    fun stopping => ?_⟩
  · exact dispatch_finishes (fun _ => rfl) live taken slot (absurd · stays)
      (doStop_noCadence (s := kept) fields number idle)
  · subst start
    have stop := cadenceStop_idles (s := s.setSlot i (some y)) .requested waiting
      ((State.slot_setSlot_other s i _ _ apart.symm).trans startSlot)
    rw [State.cad_setSlot, setSlot_finished apart, dropHold_setSlot, setCad_setSlot] at stop
    have effect := doStop_stops (i := i) fields number (busy waiting nofun) stop (by simp [kept]) (by simp [kept])
    rw [finish_eq _ i y _ _ _ (State.slot_setSlot_same ..), State.finished_setSlot] at effect
    obtain ⟨t, run, wakes⟩ := leaves effect
    exact ⟨t, _, run, wakes, rfl⟩
  · have stop := cadenceStop_flags (s := s.setSlot i (some y)) .requested running awaiting going
    rw [setCad_setSlot, setCtx_setSlot] at stop
    have effect := doStop_stops (i := i) fields number (busy running nofun) stop (by simp [kept]) (by simp [kept])
    rw [finish_eq _ i y _ _ _ (State.slot_setSlot_same ..), State.finished_setSlot] at effect
    obtain ⟨t, run, wakes⟩ := leaves effect
    exact ⟨t, _, run, wakes, rfl⟩
  · have effect := (doStop_stops fields number (busy stopping nofun)
      (cadenceStop_stopping (s := kept) _ stopping) rfl rfl).trans (finish_eq _ i y _ _ _ (State.slot_setSlot_same ..))
    obtain ⟨t, run, wakes⟩ := leaves effect
    exact ⟨t, run, by rwa [State.finished_setSlot] at wakes⟩

/-- Settles O41: the checks of a RELEASE in their order, each clause the first that fails or none. -/
theorem releaseMovesConsumer : Obligations.ReleaseMovesConsumer := by
  intro s acc tag b i x n live taken slot c named index y
  let kept := s.setSlot i (some y)
  have stays : ¬ reachesLoop 6 = true := by decide
  have finishes : ∀ {d : DoneRecord}, kept.doRelease i b = kept.finish i d →
      ∃ t, exec (.release acc tag b) s = .next t ∧ Wakes (s.finished i y d) t :=
    fun effect => dispatch_finishes (fun _ => rfl) live taken slot (absurd · stays) effect
  have passes : named → releaseFieldsOk b = true := fun ⟨number, low, high⟩ =>
    (releaseFieldsOk_iff b).2 ⟨by omega, low, high⟩
  refine ⟨fun malformed => ?_, fun name idle => ?_, fun name busy outside => ?_, fun name busy inside => ?_⟩
  · exact finishes (doRelease_badField ((releaseFieldsOk_eq_false_iff b).2 malformed))
  · exact finishes (doRelease_noCadence (s := kept) (passes name) name.1 idle)
  · exact finishes (doRelease_outside (s := kept) (passes name) name.1 busy outside)
  · have effect := doRelease_moves (s := s.setSlot i (some y)) (i := i) (passes name) name.1 busy inside
    rw [setCad_setSlot, finish_eq _ i y _ _ _ (State.slot_setSlot_same ..), State.finished_setSlot] at effect
    exact dispatch_wakes (fun _ => rfl) live taken slot effect (absurd · stays)

end
end

section
/-! A link read under the lock that passes its checks: the writes of the removal or the insertion with the release behind
them, and what the requester does with the report (R116 to R118, R130 to R132, R143, R154). -/

namespace Sys2Proof.Machine

open Sys2Proof

variable {s : State}

theorem intakeEvent_eq (live : s.live = true) (f : State → State) : s.intakeEvent f = (f s).settleIntake s := if_pos live

/-! ### The link read (R130 to R132) -/

theorem removalLinkOk_iff (n head tail count link : Word) : removalLinkOk n head tail count link = true ↔
    link.toNat ≤ n.toNat ∧
      (link = 0 ∧ tail = head ∧ count = 1 ∨ link ≠ 0 ∧ tail ≠ head ∧ link ≠ head ∧ 2 ≤ count.toNat) := by
  by_cases last : link = 0
  · simp [removalLinkOk, last]
  · have other : ¬ link = 0#32 := last
    rw [removalLinkOk, if_neg last]
    simp [other, and_assoc]

/-- The state behind a removal's writes and its release (R129, R130). -/
def State.removed (s : State) (q : Queue) (o : QueueOp) (link count : Word) : State :=
  { s with
    queues := (s.queues.setOp q (some { o with phase := .releasing })).setLock
      (some { queue := q, release := some s.link.nextAcc, fault := none }),
    link := { nextAcc := s.link.nextAcc + 1,
              issued := s.link.issued ++
                [.write (s.headerAddr q + 4) (le32 link)] ++
                (if link = 0 then [.write (s.headerAddr q + 8) (zeros 4)] else []) ++
                [.write (s.headerAddr q + 12) (le32 (count - 1)),
                  .compareSwap s.link.nextAcc (s.headerAddr q) 2 0] } }

/-- The state behind the writes and the release of an insertion behind the tail frame (R129, R131). -/
def State.inserted (s : State) (q : Queue) (o : QueueOp) (tail count : Word) : State :=
  { s with
    queues := (s.queues.setOp q (some { o with phase := .releasing })).setLock
      (some { queue := q, release := some s.link.nextAcc, fault := none }),
    link := { nextAcc := s.link.nextAcc + 1,
              issued := s.link.issued ++
                [.write (s.frameAddr tail.toNat) (le 4 o.frame), .write (s.headerAddr q + 8) (le 4 o.frame),
                  .write (s.headerAddr q + 12) (le32 (count + 1)),
                  .compareSwap s.link.nextAcc (s.headerAddr q) 2 0] } }

section
variable {q : Queue} {o : QueueOp} {acc : Nat} {head tail count link : Word} (op : s.queues.op q = some o)
include op

theorem unlink_releaseLock : (s.unlink q link count).releaseLock q none = s.removed q o link count := by
  have written : s.unlink q link count = { s with link := { s.link with issued := s.link.issued ++
      [.write (s.headerAddr q + 4) (le32 link)] ++
      (if link = 0 then [.write (s.headerAddr q + 8) (zeros 4)] else []) ++
      [.write (s.headerAddr q + 12) (le32 (count - 1))] } } := by
    unfold State.unlink
    split <;> simp [State.post, State.issue, le32, le, zeros]
  rw [written, releaseLock_eq]
  simp only [op, State.removed, Option.map_some, List.append_assoc, List.cons_append, List.nil_append]
  rfl

theorem insertBehind_releaseLock : (s.insertBehind q o.frame tail count).releaseLock q none = s.inserted q o tail count := by
  have written : s.insertBehind q o.frame tail count = { s with link := { s.link with issued := s.link.issued ++
      [.write (s.frameAddr tail.toNat) (le 4 o.frame), .write (s.headerAddr q + 8) (le 4 o.frame),
        .write (s.headerAddr q + 12) (le32 (count + 1))] } } := by
    simp [State.insertBehind, State.post, State.issue, le32, le]
  rw [written, releaseLock_eq]
  simp only [op, State.inserted, Option.map_some, List.append_assoc, List.cons_append, List.nil_append]
  rfl

variable (awaiting : s.awaiting Phase.link acc = some q) (phase : o.phase = .readingLink acc head tail count)
include awaiting phase

theorem linkOutcome_eq : s.linkOutcome acc link = State.reported q (s.linkArrives q o head tail count link) := by
  obtain ⟨p, attempt, timer, stall, stalled, frame⟩ := o
  subst phase
  simp [State.linkOutcome, awaiting, op]

/-- A removal's link read that passes its checks (R130). -/
theorem linkOutcome_removes (removal : o.frame = 0) (range : link.toNat ≤ s.engine.config.frameCount.toNat)
    (agrees : link = 0 ∧ tail = head ∧ count = 1 ∨ link ≠ 0 ∧ tail ≠ head ∧ link ≠ head ∧ 2 ≤ count.toNat) :
    s.linkOutcome acc link = (s.removed q o link count).report q (.frame head.toNat) := by
  have passes := (removalLinkOk_iff s.engine.config.frameCount head tail count link).2 ⟨range, agrees⟩
  rw [linkOutcome_eq op awaiting phase, State.linkArrives, if_pos removal, if_pos passes, unlink_releaseLock op]
  rfl

/-- An insertion's link read that finds 0 (R131). -/
theorem linkOutcome_inserts (insertion : o.frame ≠ 0) :
    s.linkOutcome acc 0 = (s.inserted q o tail count).report q (.inserted false) := by
  rw [linkOutcome_eq op awaiting phase, State.linkArrives, if_neg insertion, if_pos rfl, insertBehind_releaseLock op]
  rfl

end

/-! ### Reports (R143, R154) -/

/-- A frame that a removal finds in custody already (R143). -/
theorem report_foundTwice {q : Queue} {k : Nat} (removal : q = .request ∨ q = .spare) (twice : s.inCustody k = true) :
    s.report q (.frame k) = s.raise (damaged q k) := by
  rcases removal with rfl | rfl
  · exact if_pos twice
  · exact if_pos twice

/-- An insertion behind a tail frame frees the slot, and sets no cause (R154). -/
theorem report_inserted {i : Fin 40} (posting : s.intake.posting = some i) :
    s.report .done (.inserted false) =
      { s with intake := { s.intake with posting := none, custody := s.intake.custody.set i none } } := by
  simp only [State.report, State.posted, posting]
  rfl

/-! ### Notices (R116 to R118) -/

/-- What a notice in frame `k` issues (section 11.8; log entry 21). -/
def State.noticeWrites (s : State) (k kind : Nat) (d : DoneRecord) (body : List Byte) : List Issue :=
  [.write (s.frameAddr k + 0x04) (le 1 kind ++ le 1 d.result ++ le 1 d.stepError ++ le 1 d.station),
    .write (s.frameAddr k + 0x10) (le32 d.countA ++ le32 d.countB ++ le 2 d.stepIndex),
    .write (s.frameAddr k + 0x20) body]

theorem writeNotice_eq (k kind : Nat) (d : DoneRecord) {body : List Byte} (some : body ≠ []) :
    s.writeNotice k kind d body =
      { s with link := { s.link with issued := s.link.issued ++ s.noticeWrites k kind d body } } := by
  simp [State.writeNotice, State.noticeWrites, State.post, State.issue, State.frameAddr, some, le32, le]

/-- The state with frame `k` filled as a notice. -/
def State.filled (s : State) (k kind : Nat) (d : DoneRecord) (body : List Byte) (cadences : Vector Cadence 8)
    (attention : List Attention) : State :=
  { s with cadences, attention,
           link := { s.link with issued := s.link.issued ++ s.noticeWrites k kind d body } }

/-- The lowest-numbered owing cadence is the one that owes with none below it (R116). -/
theorem owing_eq_some {n : Fin 8} (owed : (s.cad n).owed = true) (lower : ∀ m, m < n → (s.cad m).owed = false) :
    s.owing = some n := by
  refine List.find?_eq_some_iff_getElem.2 ⟨owed, n.val, by simp, by simp, fun j below => ?_⟩
  have place : Fin.ofNat 8 j = ⟨j, by omega⟩ := Fin.ext (Nat.mod_eq_of_lt (by omega))
  have clear := lower ⟨j, by omega⟩ below
  rw [List.getElem_map, List.getElem_range, place, clear]
  rfl

theorem owing_eq_none (none : ∀ n, (s.cad n).owed = false) : s.owing = .none := by
  simp [State.owing, none]

section
variable (k : Nat)

theorem fillNotice_ring {n : Fin 8} (up : s.engine.state ≠ .quiescing) (owing : s.owing = some n) :
    s.fillNotice k = s.filled k 33 { result := 0, countA := (s.cad n).p, countB := (s.cad n).c } (s.ringNotice n)
      (s.cadences.set n { s.cad n with owed := false }) s.attention := by
  have body : s.ringNotice n ≠ [] := by simp [State.ringNotice, le]
  unfold State.fillNotice
  rw [if_neg up, owing]
  simp only [writeNotice_eq _ _ _ body]
  rfl

variable (noRing : s.engine.state = .quiescing ∨ ∀ n, (s.cad n).owed = false)
include noRing

/-- No ring notice is carried in QUIESCING, or with none owed (R116; log entry 39). -/
theorem no_ring_notice : (if s.engine.state = .quiescing then none else s.owing) = none := by
  rcases noRing with quiescing | silent
  · exact if_pos quiescing
  · rw [owing_eq_none silent, ite_self]

theorem fillNotice_attention {e : Attention} (oldest : s.attention.find? (fun e => !e.held) = some e) :
    let left := s.attention.filter fun x => x.station != e.station
    s.fillNotice k = s.filled k 32
      { result := 0, station := e.station.toNat, countA := e.firstCode, countB := e.lastCode }
      (e.noticeBody left s.engine.timeBase) s.cadences left := by
  have body : ∀ l, e.noticeBody l s.engine.timeBase ≠ [] := by simp [Attention.noticeBody, le]
  unfold State.fillNotice
  rw [no_ring_notice noRing, oldest]
  simp only [writeNotice_eq _ _ _ (body _)]
  rfl

theorem fillNotice_empty (silent : ∀ e ∈ s.attention, e.held = true) :
    s.fillNotice k = s.filled k 32 { result := 13 } (zeros 96) s.cadences s.attention := by
  have none : s.attention.find? (fun e => !e.held) = .none := List.find?_eq_none.2 fun e mem => by simp [silent e mem]
  unfold State.fillNotice
  rw [no_ring_notice noRing, none]
  exact writeNotice_eq _ _ _ (by simp [zeros])

end

section
variable {older newer : List Attention} {e : Attention}

/-- The first entry that is not HELD is the oldest WAITING one (R117). -/
theorem find_oldest (held : ∀ x ∈ older, x.held = true) (waiting : e.held = false) :
    (older ++ e :: newer).find? (fun x => !x.held) = some e :=
  List.find?_eq_some_iff_append.2 ⟨by simp [waiting], older, newer, rfl, fun x mem => by simp [held x mem]⟩

/-- An entry that leaves the set leaves all the others: no two are of one station (R109, R117). -/
theorem filter_others (others : ∀ x ∈ older ++ newer, x.station ≠ e.station) :
    (older ++ e :: newer).filter (fun x => x.station != e.station) = older ++ newer := by
  have kept : ∀ x ∈ older ++ newer, (x.station != e.station) = true := fun x mem => by simpa using others x mem
  rw [List.filter_append, List.filter_cons_of_neg (by simp), ← List.filter_append, List.filter_eq_self.2 kept]

end

/-- A spare frame filled as a notice is READY in the lowest free slot, and the spares episode has ended (R116, R143). -/
theorem noticeFrame_filled {k kind : Nat} {d : DoneRecord} {body : List Byte} {cadences : Vector Cadence 8}
    {attention : List Attention} {i : Fin 40} (new : s.inCustody k = false) (free : s.lowestFree = some i)
    (fill : s.fillNotice k = s.filled k kind d body cadences attention) :
    s.noticeFrame k = { s.filled k kind d body cadences attention with
      notice := { removing := false, promptSeen := false, episode := false },
      intake := { s.intake with
        readyCounter := s.intake.readyCounter + 1,
        custody := s.intake.custody.set i (some
          { index := k, spare := true, state := .ready, record := none, readyNumber := s.intake.readyCounter,
            readAcc := none }) } } := by
  have placed : ∀ t : State, ∀ x, (t.setSlot i (some x)).markReady i = { t with intake := { t.intake with
      readyCounter := t.intake.readyCounter + 1,
      custody := t.intake.custody.set i (some { x with state := .ready, readyNumber := t.intake.readyCounter }) } } := by
    intro t x
    simp only [State.markReady, State.slot_setSlot_same]
    simp [State.setSlot]
  unfold State.noticeFrame
  rw [new, free, fill]
  simp only [placed]
  rfl

end Sys2Proof.Machine

section
open Sys2Proof Sys2Proof.Machine

/-- Settles O29: the link read's writes and release, then the report by what the requester finds and by the notice due. -/
theorem goodLinkInsertsOrFillsNotice : Obligations.GoodLinkInsertsOrFillsNotice := by
  intro s acc o head tail count link live removed good
  have run : ∀ {w : Word} {u : State}, s.linkOutcome acc w = u →
      exec (.linkReadOutcome acc w) s = .next (u.settleIntake s) := fun effect =>
    congrArg Host.Outcome.next (effect ▸ intakeEvent_eq live _)
  have removes : ∀ {q}, good q → s.linkOutcome acc link = (removed q).report q (.frame head.toNat) :=
    fun ⟨awaiting, op, phase, removal, range, agrees⟩ => linkOutcome_removes op awaiting phase removal range agrees
  refine ⟨fun i x awaiting op phase insertion posting _ => ?_, fun q queue passes twice active => ?_,
    fun i passes new free => ?_⟩
  · have effect := (linkOutcome_inserts (q := .done) op awaiting phase insertion).trans (report_inserted posting)
    exact ⟨_, _, run effect, .settleIntake _ _, rfl⟩
  · have effect := (removes passes).trans ((report_foundTwice (s := removed q) queue twice).trans
      (raise_eq (removed q) (damaged q head.toNat) (by simp [show (removed q).active = true from active])))
    exact (run effect).trans (congrArg Host.Outcome.next (settleIntake_faulted ..))
  · intro carries noRing
    have fills : ∀ {kind result station countA countB bytes v}, (removed .spare).fillNotice head.toNat =
        (removed .spare).filled head.toNat kind { result, station, countA, countB } bytes v.cadences v.attention →
        carries kind result station countA countB bytes v := fun fill =>
      ⟨_, _, run ((removes passes).trans (noticeFrame_filled (s := removed .spare) new free fill)), .settleIntake _ _, rfl⟩
    refine ⟨fun n up owed lower => ?_, fun older newer e noRing set waiting held others => ?_, fun noRing held => ?_⟩
    · exact fills (fillNotice_ring (s := removed .spare) _ up (owing_eq_some owed lower))
    · have fill := fillNotice_attention (s := removed .spare) head.toNat noRing
        ((congrArg (List.find? _) set).trans (find_oldest held waiting))
      rw [show (removed .spare).attention = older ++ e :: newer from set, filter_others others] at fill
      exact fills fill
    · exact fills (fillNotice_empty (s := removed .spare) _ noRing held)

end
end

section
/-! The Attention Unit: what an ATTENTION makes of the set and of the counters (R54, R110, R111), and what SET ATTENTION makes of
the settings and the entries (R113). -/

namespace Sys2Proof.Machine

open Sys2Proof

variable {s u : State} {c : Instr}

/-- An event that only Intake and the Queue Unit follow. -/
theorem intakeEvent_wakes {f : State → State} (runs : exec c s = .next (s.intakeEvent f)) (live : s.live = true)
    (effect : f s = u) : ∃ t, exec c s = .next t ∧ Wakes u t :=
  ⟨_, runs.trans (congrArg _ (intakeEvent_eq live f)), effect ▸ .settleIntake _ _⟩

/-! ### Arrivals (R54, R110, R111) -/

theorem takesAttention_iff (l : LoopPort) : l.takesAttention = true ↔
    l.state = .opened ∨ l.state = .draining ∨ l.state = .switching ∨ l.state = .syncing ∧ l.syncWaits = true := by
  simp [LoopPort.takesAttention, LoopState.matches, or_assoc]

section
variable {a : BitVec 6} (code : Word)

theorem mergeAttention_merges {new : Attention} (known : ∃ e ∈ s.attention, e.station = new.station) :
    mergeAttention s.attention new =
      s.attention.map fun e => if e.station = new.station then e.merge new.lastCode else e :=
  if_pos (by simpa using known)

theorem mergeAttention_appends {new : Attention} (fresh : ∀ e ∈ s.attention, e.station ≠ new.station) :
    mergeAttention s.attention new = s.attention ++ [new] :=
  if_neg (by simpa using fresh)

/-- The state with one more ATTENTION counted as received (R68). -/
def State.attentionCounted (s : State) : State :=
  s.count fun k => { k with attentionsReceived := satInc k.attentionsReceived }

theorem takeAttention_outside (outside : ¬ (1 ≤ a.toNat ∧ a.toNat ≤ 40)) : s.takeAttention a code = s.attentionCounted :=
  if_neg outside

variable (inside : 1 ≤ a.toNat ∧ a.toNat ≤ 40)
include inside

theorem takeAttention_merges (known : ∃ e ∈ s.attention, e.station = a) : s.takeAttention a code =
    { s.attentionCounted.count fun k => { k with attentionsMerged := satInc k.attentionsMerged } with
      attention := s.attention.map fun e => if e.station = a then e.merge code else e } := by
  have found : s.attention.any (fun e => e.station == a) = true := by simpa using known
  unfold State.takeAttention
  simp only [if_pos inside, if_pos found, mergeAttention_merges (new := { station := a, .. }) known]
  rfl

theorem takeAttention_appends (fresh : ∀ e ∈ s.attention, e.station ≠ a) : s.takeAttention a code =
    { s.attentionCounted with
      attention := s.attention ++ [{ station := a, firstCode := code, lastCode := code, repeats := 1,
                                     arrival := s.engine.timeBase, held := !(s.station a.toNat).attention }] } := by
  have unknown : ¬ s.attention.any (fun e => e.station == a) = true := by simpa using fresh
  unfold State.takeAttention
  simp only [if_pos inside, if_neg unknown, mergeAttention_appends (new := { station := a, .. }) fresh]
  rfl

end

/-! ### SET ATTENTION (R113) -/

theorem getElem_mapPlaces {α : Type} {n : Nat} (f : Nat → α → α) (v : Vector α n) (k : Nat) (near : k < n) :
    (mapPlaces f v)[k] = f k v[k] := by
  simp [mapPlaces]

/-- The entries after the two sets, and after the HELD ones are discarded when asked for (R113). -/
def attentionsKept (l : List Attention) (b : Body) : List Attention :=
  let entries := l.map fun e => e.setHeld (u64 b 0x00) (u64 b 0x08)
  if u8 b 0x10 = 1 then entries.filter fun e => !e.held else entries

/-- The state with the settings and the entries of a SET ATTENTION (R113). -/
def State.attentionSet (s : State) (b : Body) : State :=
  { s with
    stations := mapPlaces (fun k x => x.setAttention (k + 1) (u64 b 0x00) (u64 b 0x08)) s.stations
    attention := attentionsKept s.attention b }

variable {b : Body} {i : Fin 40}

theorem setAttention_eq (s : State) (b : Body) : s.setAttention (u64 b 0x00) (u64 b 0x08) (u8 b 0x10 == 1) =
    (s.attentionSet b, s.attention.length - (attentionsKept s.attention b).length) := by
  simp [State.setAttention, State.attentionSet, attentionsKept]

theorem doSetAttention_eq (fields : attentionFieldsOk b = true) {x : Slot} (slot : s.slot i = some x) :
    let kept := attentionsKept s.attention b
    s.doSetAttention i b = (s.attentionSet b).finished i x
      { result := 0, countA := BitVec.ofNat 32 (s.attention.length - kept.length), countB := BitVec.ofNat 32 kept.length }
      0x20 (le 4 (waitingCount kept) ++ le 4 (heldCount kept)) := by
  unfold State.doSetAttention
  rw [fields, setAttention_eq]
  exact finish_eq (s.attentionSet b) i x _ _ _ slot

end Sys2Proof.Machine

open Sys2Proof Sys2Proof.Machine

/-- Settles O55: the receiver takes the frame by its loop state, and the Attention Unit by the station and the set. -/
theorem attentionIsMergedOrAppended : Obligations.AttentionIsMergedOrAppended := by
  intro s a code live takes received inside
  have arrives : ∀ {u : State}, s.framed.attentionArrives a code = u →
      ∃ t, exec (.attentionArrival a code) s = .next t ∧ Wakes u t := fun effect => intakeEvent_wakes rfl live effect
  have taken : ∀ {u : State}, takes → s.framed.takeAttention a code = u →
      ∃ t, exec (.attentionArrival a code) s = .next t ∧ Wakes u t := fun takes effect =>
    arrives ((if_pos ((takesAttention_iff s.framed.loop).2 takes)).trans effect)
  refine ⟨fun takes inside known => ?_, fun takes inside fresh => ?_, fun takes outside => ?_, fun discards => ?_⟩
  · exact taken takes (takeAttention_merges code inside known)
  · exact taken takes (takeAttention_appends code inside fresh)
  · exact taken takes (takeAttention_outside code outside)
  · exact arrives (if_neg fun h => discards ((takesAttention_iff s.framed.loop).1 h))

/-- Settles O44: the dispatch sets the stations and the entries, and finishes the frame with the counts of what it left. -/
theorem setAttentionSetsAndDiscards : Obligations.SetAttentionSetsAndDiscards := by
  intro s acc tag b i x live taken slot fields enable disable entries kept
  obtain ⟨t, run, wakes⟩ := dispatch_wakes (c := .setAttention acc tag b) (fun _ => rfl) live taken slot
    (doSetAttention_eq (s := s.setSlot i (some (x.kept 9 tag b))) fields (State.slot_setSlot_same ..))
    (fun reaches => absurd reaches (by decide))
  refine ⟨t, _, run, wakes, fun p => getElem_mapPlaces _ s.stations p.val p.isLt, ?_⟩
  exact congrArg (fun u : State => { u with stations := s.stations, attention := kept })
    (State.finished_setSlot s i (some (x.kept 9 tag b)) (x.kept 9 tag b) _ _ _)

end

section
/-! A PROMPT for the spare queue (R115, R119, R168), and the claim of the only operation that is due (R124). -/

namespace Sys2Proof.Machine

open Sys2Proof

variable {s : State}

/-! ### The end of an event with one claim due (R124) -/

/-- With the taker and the poster at rest and no removal to begin for a notice, nothing begins. -/
theorem begun_rests (before : State) (taker : s.takerRests = true) (poster : s.posterRests = true)
    (notice : s.noticeAble = false) : (s.takerAfter.post1).beginRemovals before = s := by
  simp only [State.takerRests, State.posterRests, Bool.and_eq_true, Bool.or_eq_true, bne_iff_ne, ne_eq,
    Option.isNone_iff_eq_none] at taker poster
  obtain ⟨awake, dispatching⟩ := taker
  have after : s.takerAfter = s := if_neg fun ⟨busy, left⟩ => by simp [busy, left] at dispatching
  have posted : s.post1 = s := by
    refine ite_eq_right_iff.2 fun ⟨_, idle⟩ => ?_
    rw [poster.resolve_left (by simp [idle])]
  rw [after, posted]
  simp [State.beginRemovals, State.takerReady, State.noticeReady, awake, notice]

/-- With one claim due and free to go out, and nothing else to do, the end of the event issues that claim. -/
theorem settleIntake_claims (before : State) {q : Queue} {o : QueueOp} (running : s.engine.state = .running)
    (taker : s.takerRests = true) (poster : s.posterRests = true) (notice : s.noticeAble = false)
    (due : s.deferredQueues = [q]) (may : s.mayClaim = true) (op : s.queues.op q = some o) :
    s.settleIntake before = { s with
      queues := s.queues.setOp q (some { o with phase := .claiming s.link.nextAcc }),
      link := { nextAcc := s.link.nextAcc + 1,
                issued := s.link.issued ++ [.compareSwap s.link.nextAcc (s.headerAddr q) 0 2] } } := by
  have claims : s.issueClaims = s.claim q := by
    unfold State.issueClaims
    rw [if_pos may, due]
    rfl
  unfold State.settleIntake
  rw [if_pos (by simp [State.active, running]), begun_rests before taker poster notice, claims, claim_eq s q o op]
  exact if_neg (by simp [State.quiesced, running])

theorem deferredQueues_noticeBegin (none : s.deferredQueues = []) : s.noticeBegin.deferredQueues = [.spare] := by
  simp only [State.deferredQueues, allQueues, List.filter_eq_nil_iff] at none
  have request := none .request (by simp)
  have done := none .done (by simp)
  rw [noticeBegin_eq]
  simp_all [State.deferredQueues, allQueues, State.phaseIs, QueueUnit.op, QueueUnit.setOp, QueueOp.fresh]

/-! ### The prompt (R119, R168) -/

theorem exec_promptSpare (answers : s.windowAnswers = true) :
    exec .promptSpare s = .next (s.noticePrompt.settleIntake s) :=
  congrArg Host.Outcome.next (if_pos ⟨answers, rfl⟩)

theorem exec_promptSpare_wakes {u : State} (answers : s.windowAnswers = true) (effect : s.noticePrompt = u) :
    ∃ t, exec .promptSpare s = .next t ∧ Wakes u t :=
  ⟨_, exec_promptSpare answers, effect ▸ .settleIntake _ _⟩

theorem noticePrompt_off (off : s.engine.state ≠ .running) : s.noticePrompt = s := if_neg off

section
variable (running : s.engine.state = .running)
include running

theorem noticePrompt_removing (removing : s.notice.removing = true) :
    s.noticePrompt = { s with notice := { s.notice with promptSeen := true } } := by
  unfold State.noticePrompt
  rw [if_pos running, if_pos removing]
  rfl

variable (idle : s.notice.removing = false)
include idle

omit running in
theorem noticePrompt_lost (clear : s.noticeDue = false) : s.noticePrompt = s := by
  simp [State.noticePrompt, idle, clear]

theorem noticePrompt_full (due : s.noticeDue = true) (full : s.available = 0) :
    s.noticePrompt = { s with notice := { s.notice with promptSeen := s.notice.promptSeen || s.notice.episode } } := by
  unfold State.noticePrompt
  rw [if_pos running, if_neg (by simp [idle]), if_pos due, if_neg (by simp [full])]
  cases s.notice.episode
  · rw [if_neg Bool.false_ne_true, Bool.or_false]
  · rw [if_pos rfl, Bool.or_true]
    rfl

theorem noticePrompt_begins (due : s.noticeDue = true) (room : 1 ≤ s.available) : s.noticePrompt = s.noticeBegin := by
  simp [State.noticePrompt, running, idle, due, room]

end

end Sys2Proof.Machine

open Sys2Proof Sys2Proof.Machine

/-- Settles O22: one clause for each branch of the prompt; a removal that begins has the only claim that is due. -/
theorem promptBringsSpares : Obligations.PromptBringsSpares := by
  intro s answers
  refine ⟨fun off => ?_, fun running removing => ?_, fun running idle clear => ?_, fun running idle due full => ?_,
    fun running idle due room taker poster none may => ?_⟩
  · exact exec_promptSpare_wakes answers (noticePrompt_off off)
  · exact exec_promptSpare_wakes answers (noticePrompt_removing running removing)
  · exact exec_promptSpare_wakes answers (noticePrompt_lost idle clear)
  · exact exec_promptSpare_wakes answers (noticePrompt_full running idle due full)
  · have able : s.noticeAble = true := by simp [State.noticeAble, running, idle, due, room]
    have busy : s.noticeBegin.noticeAble = false := by rw [noticeBegin_eq]; simp [State.noticeAble]
    have begins : Begins s s.noticeBegin := .noticeBegin s able
    have op : s.noticeBegin.queues.op .spare = some (QueueOp.fresh .deferred 0) := by
      simp [noticeBegin_eq]
    have settled := settleIntake_claims (s := s.noticeBegin) s (by rw [begins.engine]; exact running)
      (by rw [noticeBegin_eq]; exact taker) (by rw [noticeBegin_eq]; exact poster) busy (deferredQueues_noticeBegin none)
      (begins.mayClaim may) op
    rw [exec_promptSpare answers, noticePrompt_begins running idle due room, settled, noticeBegin_eq]
    rfl
end

section
/-! A header read under the lock that passes its checks: the link read that follows, or what the requester does with an empty
queue (R119, R129 to R132, R141, R142, R154). -/

namespace Sys2Proof.Machine

open Sys2Proof

variable {s : State}

/-! ### The checks (R132) -/

/-- An empty header passes, but for an insertion into a queue without frames. -/
theorem headerCheck_empty {n : Word} {frame : Nat} (room : frame = 0 ∨ n ≠ 0) : headerCheck n frame 0 0 0 = none := by
  rcases room with rfl | room
  · simp [headerCheck]
  · have frames : ¬ 0#32 = n := fun h => room h.symm
    simp [headerCheck, frames]

/-- A header of a queue that holds frames passes when its fields are in range and, for an insertion, there is room and the
frame is neither head nor tail. -/
theorem headerCheck_queued {n head tail count : Word} {frame : Nat} (first : head ≠ 0) (last : tail ≠ 0) (filled : count ≠ 0)
    (headRange : head.toNat ≤ n.toNat) (tailRange : tail.toNat ≤ n.toNat) (countRange : count.toNat ≤ n.toNat)
    (fresh : frame ≠ 0 → count.toNat < n.toNat ∧ frame ≠ head.toNat ∧ frame ≠ tail.toNat) :
    headerCheck n frame head tail count = none := by
  have room : ¬ (frame ≠ 0 ∧ count = n) := fun ⟨insertion, full⟩ => by
    have := (fresh insertion).1
    rw [full] at this
    exact absurd this (Nat.lt_irrefl _)
  have new : ¬ (frame ≠ 0 ∧ (frame = head.toNat ∨ frame = tail.toNat)) := fun ⟨insertion, queued⟩ =>
    queued.elim (fresh insertion).2.1 (fresh insertion).2.2
  unfold headerCheck
  rw [if_neg (not_not.2 (propext (iff_of_false first last))), if_neg (not_not.2 (propext (iff_of_false filled first))),
    if_neg (by omega), if_neg room, if_neg new]

/-! ### The header read (R130, R131) -/

section
variable {q : Queue} {o : QueueOp} {acc : Nat} {head tail count : Word} (op : s.queues.op q = some o)
  (awaiting : s.awaiting Phase.header acc = some q)
include op awaiting

theorem headerOutcome_eq :
    s.headerOutcome acc head tail count = State.reported q (s.headerArrives q o head tail count) := by
  simp only [State.headerOutcome, awaiting, op]

/-- A removal from an empty queue (R129, R130). -/
theorem headerOutcome_empties (removal : o.frame = 0) :
    s.headerOutcome acc 0 0 0 = (s.releaseLock q none).report q .empty := by
  rw [headerOutcome_eq op awaiting]
  unfold State.headerArrives
  rw [headerCheck_empty (.inl removal)]
  simp only [if_pos removal]
  rfl

/-- An insertion into an empty queue (R129, R131). -/
theorem headerOutcome_first (insertion : o.frame ≠ 0) (frames : s.engine.config.frameCount ≠ 0) :
    s.headerOutcome acc 0 0 0 = ((s.insertFirst q o.frame).releaseLock q none).report q (.inserted true) := by
  rw [headerOutcome_eq op awaiting]
  unfold State.headerArrives
  rw [headerCheck_empty (.inr frames)]
  simp only [if_neg insertion]
  rfl

/-- The link read of the frame that a removal takes or an insertion follows (R130, R131). -/
theorem headerOutcome_reads {next : Word} (frame : next = if o.frame = 0 then head else tail) (queued : next ≠ 0)
    (passes : headerCheck s.engine.config.frameCount o.frame head tail count = none) :
    s.headerOutcome acc head tail count = { s with
      queues := s.queues.setOp q (some { o with phase := .readingLink s.link.nextAcc head tail count }),
      link := { nextAcc := s.link.nextAcc + 1,
                issued := s.link.issued ++ [.read s.link.nextAcc (s.frameAddr next.toNat) 4] } } := by
  rw [headerOutcome_eq op awaiting]
  unfold State.headerArrives
  rw [passes]
  simp only [← frame, if_neg queued]
  rfl

end

/-! ### What the end of the event makes of the taker and the notice engine -/

section
variable {t : State} (wakes : Wakes s t)
include wakes

theorem Wakes.taker_running {x : TakerState} (running : s.engine.state = .running) (taker : s.intake.taker = x)
    (other : x ≠ .dispatching) : t.intake.taker = x ∨ x = .blocked ∧ t.intake.taker = .looking := by
  have now : s.takerNow = x := (if_neg fun busy => other (taker.symm.trans busy.2.1)).trans taker
  rcases wakes.taker with ⟨may, looks, -⟩ | ⟨same | ⟨quiescing, -⟩, -⟩
  · simp only [State.takerMay, now, Bool.and_eq_true, beq_iff_eq] at may
    exact .inr ⟨may.1.1.1.2, looks⟩
  · exact .inl (same.trans now)
  · rw [running] at quiescing
    cases quiescing

theorem Wakes.promptSeen_clear (clear : s.intake.promptSeen = false) : t.intake.promptSeen = false := by
  rcases wakes.taker with ⟨-, -, seen⟩ | ⟨-, same⟩
  · exact seen
  · exact same.trans clear

/-- A removal that a prompt asks for begins when it may (R119). -/
theorem Wakes.notice_begun (able : s.noticeAble = true) (seen : s.notice.promptSeen = true) :
    t.notice = { s.notice with removing := true, promptSeen := false } := by
  rcases wakes.notice with same | ⟨-, begun⟩
  · have removing := wakes.noticeBegins able (.inr seen)
    rw [same, noticeAble_idle s able] at removing
    cases removing
  · exact begun

end

/-! ### Empty queues (R119, R131, R142, R154) -/

/-- The taker sleeps, or looks again when it was prompted (R142). -/
theorem takerEmpty_asleep (unseen : s.intake.promptSeen = false) :
    s.takerEmpty = { s with intake := { s.intake with taker := if s.engine.state = .running then .asleep else .idle } } :=
  if_neg (by simp [unseen])

theorem takerEmpty_looks (seen : s.intake.promptSeen = true) :
    s.takerEmpty = { s with
      intake := { s.intake with taker := if s.engine.state = .running then .blocked else .idle, promptSeen := false } } :=
  if_pos seen

/-- Whether the notice engine, its removal over, may begin another one (R115, R140). -/
def State.mayLookAgain (s : State) : Bool :=
  s.engine.state == .running && s.noticeDue && decide ((if s.intake.taker = .looking then 2 else 1) ≤ s.freeCount)

theorem mayLookAgain_iff : s.mayLookAgain = true ↔ s.engine.state = .running ∧ s.noticeDue = true ∧
    (if s.intake.taker = .looking then 2 else 1) ≤ s.freeCount := by
  simp [State.mayLookAgain, and_assoc]

/-- A state that has kept what a notice needs, with the removal over, may begin another one when the first could. -/
theorem noticeAble_of_ended {u : State} (engine : u.engine.state = s.engine.state) (due : u.noticeDue = s.noticeDue)
    (intake : u.intake = s.intake) (ended : u.notice.removing = false) : u.noticeAble = s.mayLookAgain := by
  unfold State.noticeAble State.mayLookAgain State.available State.reserved State.freeCount
  rw [engine, due, intake, ended]
  by_cases running : s.engine.state = .running
  · have room : 1 ≤ s.freeCount - ((if s.intake.taker = .looking then 1 else 0) + 0) ↔
        (if s.intake.taker = .looking then 2 else 1) ≤ s.freeCount := by split <;> omega
    unfold State.freeCount at room
    simp [running, ← room]
  · have off : (s.engine.state == .running) = false := beq_eq_false_iff_ne.2 running
    simp [off]

/-- The state with the removal over and the spares episode begun, with its cause, or gone on (R119, R169, R170). -/
def State.inEpisode (s : State) (seen : Bool) : State :=
  { s with
    notice := { removing := false, promptSeen := seen, episode := true },
    engine := { s.engine with causes := if s.notice.episode = true then s.engine.causes else s.engine.causes ||| 8 },
    link := { s.link with issued := s.link.issued ++
      if s.notice.episode = false ∧ s.engine.causes = 0 ∧ s.engine.messageEnable = true then [.message] else [] } }

/-- A spares episode begins or goes on; a prompt seen stands for one more look, when there may be one (R119). -/
theorem noticeEmpty_eq (s : State) : s.noticeEmpty = s.inEpisode (s.notice.promptSeen && s.mayLookAgain) := by
  let idle := s.setNotice fun _ => { removing := false, promptSeen := false, episode := true }
  have begun : (if s.notice.episode then idle else idle.setCause .spares) = s.inEpisode false := by
    cases episode : s.notice.episode
    · rw [if_neg Bool.false_ne_true, setCause_eq]
      simp [idle, State.inEpisode, State.setNotice, episode, Cause.mask]
    · simp [idle, State.inEpisode, State.setNotice, episode]
  have able : (s.inEpisode false).noticeAble = s.mayLookAgain := noticeAble_of_ended rfl rfl rfl rfl
  calc s.noticeEmpty
      = (if s.notice.episode then idle else idle.setCause .spares).setNotice fun x =>
          { x with promptSeen := s.notice.promptSeen &&
              (if s.notice.episode then idle else idle.setCause .spares).noticeAble } := rfl
    _ = s.inEpisode (s.notice.promptSeen && s.mayLookAgain) := by
        rw [begun, able]
        rfl

/-- An insertion into an empty done queue: its writes, the release, the slot freed and the DONE cause set (R131, R154). -/
theorem insertFirst_posted {i : Fin 40} {o : QueueOp} (op : s.queues.op .done = some o) (posting : s.intake.posting = some i) :
    ((s.insertFirst .done o.frame).releaseLock .done none).report .done (.inserted true) = { s with
      engine := { s.engine with causes := s.engine.causes ||| 1 },
      intake := { s.intake with posting := none, custody := s.intake.custody.set i none },
      queues := { s.queues with
        done := some { o with phase := .releasing },
        lock := some { queue := .done, release := some s.link.nextAcc, fault := none } },
      link := { nextAcc := s.link.nextAcc + 1,
                issued := s.link.issued ++
                  [.write (s.headerAddr .done + 4) (le 4 o.frame), .write (s.headerAddr .done + 8) (le 4 o.frame),
                    .write (s.headerAddr .done + 12) (le 4 1),
                    .compareSwap s.link.nextAcc (s.headerAddr .done) 2 0] ++
                  if s.engine.causes = 0 ∧ s.engine.messageEnable = true then [.message] else [] } } := by
  have written : s.insertFirst .done o.frame = { s with link := { s.link with issued := s.link.issued ++
      [.write (s.headerAddr .done + 4) (le 4 o.frame), .write (s.headerAddr .done + 8) (le 4 o.frame),
        .write (s.headerAddr .done + 12) (le 4 1)] } } := by
    simp [State.insertFirst, State.post, State.issue, le]
  have released : (s.insertFirst .done o.frame).releaseLock .done none = { s with
      queues := { s.queues with
        done := some { o with phase := .releasing },
        lock := some { queue := .done, release := some s.link.nextAcc, fault := none } },
      link := { nextAcc := s.link.nextAcc + 1,
                issued := s.link.issued ++
                  [.write (s.headerAddr .done + 4) (le 4 o.frame), .write (s.headerAddr .done + 8) (le 4 o.frame),
                    .write (s.headerAddr .done + 12) (le 4 1),
                    .compareSwap s.link.nextAcc (s.headerAddr .done) 2 0] } } := by
    rw [written, releaseLock_eq]
    simp only [op, Option.map_some, List.append_assoc, List.cons_append, List.nil_append]
    rfl
  rw [released]
  simp only [State.report, State.posted, posting, if_true, setCause_eq]
  rfl

end Sys2Proof.Machine

open Sys2Proof Sys2Proof.Machine

/-- Settles O26: the checks pass, and the operation reads on or reports to its requester, by the requester and what it was
told. -/
theorem headerReadGoesOn : Obligations.HeaderReadGoesOn := by
  intro s acc q o head tail count live awaiting op next rest spares again
  have arrives : ∀ {head tail count : Word} {u : State}, s.headerOutcome acc head tail count = u →
      ∃ t, exec (.headerReadOutcome acc head tail count) s = .next t ∧ Wakes u t := fun effect =>
    intakeEvent_wakes rfl live effect
  have looks : again ↔ (s.notice.promptSeen && s.mayLookAgain) = true := by
    rw [Bool.and_eq_true, mayLookAgain_iff]
  have empties : o.frame = 0 → q = .spare →
      s.headerOutcome acc 0 0 0 = spares (s.notice.promptSeen && s.mayLookAgain) := by
    rintro removal rfl
    exact (headerOutcome_empties op awaiting removal).trans (noticeEmpty_eq _)
  refine ⟨fun removal queue unseen => ?_, fun removal queue seen => ?_, fun removal queue once => ?_,
    fun removal queue again => ?_, fun removal first last filled headRange tailRange countRange => ?_,
    fun i x insertion queue frames posting _ => ?_,
    fun insertion first last filled headRange tailRange room notHead notTail => ?_⟩
  · subst queue
    obtain ⟨t, run, wakes⟩ := arrives ((headerOutcome_empties op awaiting removal).trans (takerEmpty_asleep unseen))
    refine ⟨t, run, wakes, fun running => ?_⟩
    have asleep : (if s.engine.state = .running then TakerState.asleep else .idle) = .asleep := if_pos running
    exact (wakes.taker_running running asleep (by decide)).resolve_right (by simp)
  · subst queue
    obtain ⟨t, run, wakes⟩ := arrives ((headerOutcome_empties op awaiting removal).trans (takerEmpty_looks seen))
    refine ⟨t, run, wakes, wakes.promptSeen_clear rfl, fun running => ?_⟩
    have blocked : (if s.engine.state = .running then TakerState.blocked else .idle) = .blocked := if_pos running
    exact (wakes.taker_running running blocked (by decide)).symm.imp_left And.right
  · exact arrives ((empties removal queue).trans (congrArg spares (Bool.eq_false_iff.2 (once ∘ looks.2))))
  · obtain ⟨t, run, wakes⟩ := arrives ((empties removal queue).trans (congrArg spares (looks.1 again)))
    have able : (spares true).noticeAble = s.mayLookAgain := noticeAble_of_ended rfl rfl rfl rfl
    exact ⟨t, run, wakes, wakes.notice_begun (able.trans (mayLookAgain_iff.2 again.2)) rfl⟩
  · exact arrives (headerOutcome_reads op awaiting (if_pos removal).symm first
      (headerCheck_queued first last filled headRange tailRange countRange fun insertion => absurd removal insertion))
  · subst queue
    obtain ⟨t, run, wakes⟩ := arrives ((headerOutcome_first op awaiting insertion frames).trans (insertFirst_posted op posting))
    exact ⟨t, _, run, wakes, rfl⟩
  · exact arrives (headerOutcome_reads op awaiting (if_neg insertion).symm last
      (headerCheck_queued first last filled headRange tailRange room.le fun _ => ⟨room, notHead, notTail⟩))

end

section
/-! The requesters of the Queue Unit: which operations still work, who waits for each, and that every step keeps a requester for
each (R115, R125, R141, R154, R162). -/

namespace Sys2Proof.Machine

open Sys2Proof

/-- What the requesters of the Queue Unit and their operations are: the operations, the taker, the poster's slot, whether the
notice engine removes, and the engine's state. -/
structure Requesters where
  queues : QueueUnit
  taker : TakerState
  posting : Option (Fin 40)
  removing : Bool
  engine : EngineState

/-- The requesters of a state. -/
def State.requesters (s : State) : Requesters :=
  { queues := s.queues, taker := s.intake.taker, posting := s.intake.posting, removing := s.notice.removing,
    engine := s.engine.state }

/-- Whether a queue has an operation that is not yet RELEASING (R125). -/
def State.working (s : State) (q : Queue) : Bool := s.phaseIs q (· != .releasing)

/-! ### Updates that leave the requesters -/

theorem Carries.requesters {s t : State} (carries : Carries s t) : t.requesters = s.requesters := by
  simp only [State.requesters, carries.queues, carries.taker, carries.posting, carries.notice, carries.engine]

theorem Turns.requesters {s t : State} (turns : Turns s t) : t.requesters = s.requesters := by
  simp only [State.requesters, turns.queues, turns.taker, turns.posting, turns.notice, turns.engine]

section
variable (s : State)

@[simp] theorem requesters_setCtx (i : CtxId) (c : Context) : (s.setCtx i c).requesters = s.requesters := rfl
@[simp] theorem requesters_setCad (n : Fin 8) (c : Cadence) : (s.setCad n c).requesters = s.requesters := rfl
@[simp] theorem requesters_setSlot (i : Fin 40) (x : Option Slot) : (s.setSlot i x).requesters = s.requesters := rfl
@[simp] theorem requesters_setLoop (f : LoopPort → LoopPort) : (s.setLoop f).requesters = s.requesters := rfl
@[simp] theorem requesters_count (f : Stats → Stats) : (s.count f).requesters = s.requesters := rfl
@[simp] theorem requesters_chose {α : Type} (l : List α) : (s.chose l).requesters = s.requesters := rfl
@[simp] theorem requesters_popOldest : s.popOldest.requesters = s.requesters := rfl
@[simp] theorem requesters_countCheck : s.countCheck.requesters = s.requesters := rfl
@[simp] theorem requesters_enterSyncing : s.enterSyncing.requesters = s.requesters := rfl
@[simp] theorem requesters_syncAttempt : s.syncAttempt.requesters = s.requesters := rfl
@[simp] theorem requesters_enterSettling : s.enterSettling.requesters = s.requesters := rfl

@[simp] theorem requesters_modStation (a : Nat) (f : Station → Station) :
    (s.modStation a f).requesters = s.requesters := by
  rw [modStation_eq]
  rfl

@[simp] theorem requesters_setCause (c : Cause) : (s.setCause c).requesters = s.requesters := by
  rw [setCause_eq]
  rfl

@[simp] theorem requesters_post (a : Addr) (b : List Byte) : (s.post a b).requesters = s.requesters :=
  ((Carries.refl s).post a b).requesters

@[simp] theorem requesters_setSlotState (i : Fin 40) (x : SlotState) : (s.setSlotState i x).requesters = s.requesters :=
  ((Carries.refl s).setSlotState i x).requesters

@[simp] theorem requesters_markReady (i : Fin 40) : (s.markReady i).requesters = s.requesters :=
  ((Carries.refl s).markReady i).requesters

@[simp] theorem requesters_finish (i : Fin 40) (d : DoneRecord) (o : Nat) (b : List Byte) :
    (s.finish i d o b).requesters = s.requesters :=
  ((Carries.refl s).finish i d o b).requesters

@[simp] theorem requesters_refuse (i : Fin 40) (r : Result) : (s.refuse i r).requesters = s.requesters :=
  ((Carries.refl s).refuse i r).requesters

@[simp] theorem requesters_stepError (i : CtxId) (e : StepError) (a r : Bool) :
    (s.stepError i e a r).requesters = s.requesters :=
  ((Carries.refl s).stepError i e a r).requesters

@[simp] theorem requesters_completeElement (i : CtxId) (r : Bool) (d : Word) :
    (s.completeElement i r d).requesters = s.requesters :=
  ((Carries.refl s).completeElement i r d).requesters

@[simp] theorem requesters_endShort (i : CtxId) : (s.endShort i).requesters = s.requesters :=
  ((Carries.refl s).endShort i).requesters

@[simp] theorem requesters_awaitReady (i : CtxId) : (s.awaitReady i).requesters = s.requesters :=
  ((Carries.refl s).awaitReady i).requesters

@[simp] theorem requesters_endCancelled (i : CtxId) : (s.endCancelled i).requesters = s.requesters :=
  ((Carries.refl s).endCancelled i).requesters

@[simp] theorem requesters_halt (i : CtxId) (e : StepError) : (s.halt i e).requesters = s.requesters :=
  ((Carries.refl s).halt i e).requesters

@[simp] theorem requesters_nextStep (i : CtxId) : (s.nextStep i).requesters = s.requesters :=
  ((Carries.refl s).nextStep i).requesters

@[simp] theorem requesters_surveyNext (i : CtxId) : (s.surveyNext i).requesters = s.requesters :=
  ((Carries.refl s).surveyNext i).requesters

@[simp] theorem requesters_surveyCount (i : CtxId) (f : SurveyCounts → SurveyCounts) :
    (s.surveyCount i f).requesters = s.requesters := rfl

@[simp] theorem requesters_cancelCtx (i : CtxId) (c : CancelCause) : (s.cancelCtx i c).requesters = s.requesters :=
  ((Carries.refl s).cancelCtx i c).requesters

@[simp] theorem requesters_cadenceStop (n : Fin 8) (r : StopReason) : (s.cadenceStop n r).requesters = s.requesters :=
  ((Carries.refl s).cadenceStop n r).requesters

@[simp] theorem requesters_startRequest (i : CtxId) (k : Fin 40) : (s.startRequest i k).requesters = s.requesters :=
  ((Carries.refl s).startRequest i k).requesters

@[simp] theorem requesters_triggerExpires (n : Fin 8) : (s.triggerExpires n).requesters = s.requesters :=
  ((Carries.refl s).triggerExpires n).requesters

@[simp] theorem requesters_enterSwitching : s.enterSwitching.requesters = s.requesters :=
  (Turns.refl s).enterSwitching.requesters

@[simp] theorem requesters_enterQuiet : s.enterQuiet.requesters = s.requesters := (carries_enterQuiet s).requesters

/-- Both branches of a test leave the requesters. -/
theorem requesters_ite {p : Prop} [Decidable p] {t u : State} (yes : t.requesters = s.requesters)
    (no : u.requesters = s.requesters) : (if p then t else u).requesters = s.requesters := by
  split
  · exact yes
  · exact no

/-- The steps of a fold that each leave the requesters leave them together. -/
theorem requesters_foldl {α : Type} {f : State → α → State} (each : ∀ s a, (f s a).requesters = s.requesters) (l : List α) :
    (l.foldl f s).requesters = s.requesters := by
  induction l generalizing s with
  | nil => rfl
  | cons a l ih => exact (ih _).trans (each s a)

/-! ### Frames handed to their owners (R25, R83) -/

@[simp] theorem requesters_deliver (i : CtxId) (o : FrameOutcome) : (s.deliver i o).requesters = s.requesters := by
  unfold State.deliver
  split
  · unfold State.probeOutcome
    cases o with
    | reply | returned => simp
    | checkFailure | abandoned => dsimp only; split_ifs <;> simp
  · unfold State.elementOutcome
    cases o with
    | reply ack ready data =>
      dsimp only
      split_ifs
      · simp
      · simp
      · cases (s.ctx i).elem.readiness <;> simp
    | returned => simp
    | checkFailure | abandoned => dsimp only; split_ifs <;> simp

@[simp] theorem requesters_switchNext (r : Reconfigure) (a : Nat) : (s.switchNext r a).requesters = s.requesters :=
  (Turns.switchWalk _ (Turns.refl s)).requesters

@[simp] theorem requesters_switchDecided (r : Reconfigure) (o : Outcome40) (x : Option StationState) :
    (s.switchDecided r o x).requesters = s.requesters := by
  cases x <;> simp [State.switchDecided]

@[simp] theorem requesters_switchOutcome (o : FrameOutcome) : (s.switchOutcome o).requesters = s.requesters := by
  unfold State.switchOutcome
  split
  · cases o with
    | reply | checkFailure => dsimp only; split_ifs <;> simp
    | returned => simp
    | abandoned => rfl
  · rfl

@[simp] theorem requesters_hand (w : Owner) (o : FrameOutcome) : (s.hand w o).requesters = s.requesters := by
  cases w <;> simp [State.hand]

/-! ### The Loop Port (R54 to R64, R84) -/

@[simp] theorem requesters_switchTimeout : s.switchTimeout.requesters = s.requesters := by
  unfold State.switchTimeout
  split <;> simp

@[simp] theorem requesters_lostOrder : s.lostOrder.requesters = s.requesters := by
  unfold State.lostOrder
  split <;> simp

@[simp] theorem requesters_sequenceFault : s.sequenceFault.requesters = s.requesters := by
  unfold State.sequenceFault
  split <;> simp

@[simp] theorem requesters_replyArrives (q : BitVec 3) (x : BitVec 6) (a r : Bool) (d : Word) :
    (s.replyArrives q x a r d).requesters = s.requesters := by
  unfold State.replyArrives
  split
  · split <;> simp
  · simp

@[simp] theorem requesters_frameReturns (f : LoopFrame) : (s.frameReturns f).requesters = s.requesters := by
  unfold State.frameReturns
  split
  · split <;> simp
  · simp

@[simp] theorem requesters_badCheck : s.badCheck.requesters = s.requesters := by
  unfold State.badCheck
  split
  · split <;> simp
  · split <;> simp

@[simp] theorem requesters_completeOp (r : Result) : (s.completeOp r).requesters = s.requesters := by
  unfold State.completeOp
  dsimp only
  split <;> simp

@[simp] theorem requesters_syncArrives (p : Word) : (s.syncArrives p).requesters = s.requesters := by
  unfold State.syncArrives State.enterOpen
  split
  · split <;> simp
  · simp

@[simp] theorem requesters_lineLost : s.lineLost.requesters = s.requesters := by
  unfold State.lineLost
  split <;> simp

@[simp] theorem requesters_deadlineExpires : s.deadlineExpires.requesters = s.requesters := by
  unfold State.deadlineExpires
  split <;> simp

@[simp] theorem requesters_transmitEnd : s.transmitEnd.requesters = s.requesters := by
  unfold State.transmitEnd
  split <;> simp

@[simp] theorem requesters_quietExpires : s.quietExpires.requesters = s.requesters := by
  unfold State.quietExpires State.quietEnds
  dsimp only
  split
  · split <;> simp
  · rfl

@[simp] theorem requesters_tellDown (o : Option CtxId) : (s.tellDown o).requesters = s.requesters := by
  cases o <;> simp [State.tellDown]

@[simp] theorem requesters_enterDown : s.enterDown.requesters = s.requesters := requesters_foldl _ requesters_tellDown _

@[simp] theorem requesters_syncExpires : s.syncExpires.requesters = s.requesters := by
  unfold State.syncExpires State.syncFailed
  split
  · split <;> simp
  · rfl

@[simp] theorem requesters_syncQuietExpires : s.syncQuietExpires.requesters = s.requesters := by
  unfold State.syncQuietExpires
  split <;> simp

@[simp] theorem requesters_settleEnds : s.settleEnds.requesters = s.requesters := by
  unfold State.settleEnds
  split <;> simp

/-! ### Contexts, cadences and attentions -/

@[simp] theorem requesters_inputArrives (acc : Nat) (w : Word) : (s.inputArrives acc w).requesters = s.requesters := by
  unfold State.inputArrives
  split <;> simp

@[simp] theorem requesters_inputFails (acc : Nat) : (s.inputFails acc).requesters = s.requesters := by
  unfold State.inputFails
  split <;> simp

@[simp] theorem requesters_pauseEnds (i : CtxId) : (s.pauseEnds i).requesters = s.requesters := by
  unfold State.pauseEnds
  dsimp only
  split <;> simp

@[simp] theorem requesters_gapEnds (i : CtxId) : (s.gapEnds i).requesters = s.requesters := by
  unfold State.gapEnds
  dsimp only
  split <;> simp

@[simp] theorem requesters_loopDownStops : s.loopDownStops.requesters = s.requesters :=
  requesters_foldl _ (fun s n => requesters_cadenceStop s n .loopDown) _

@[simp] theorem requesters_cadenceExpires (n : Fin 8) : (s.cadenceExpires n).requesters = s.requesters := by
  unfold State.cadenceExpires
  split <;> simp

@[simp] theorem requesters_attentionArrives (a : BitVec 6) (code : Word) :
    (s.attentionArrives a code).requesters = s.requesters := by
  unfold State.attentionArrives State.takeAttention
  dsimp only
  split_ifs <;> rfl

/-! ### Requests (R144 to R150) -/

@[simp] theorem requesters_keepRecord (i : Fin 40) (r : Record) : (s.keepRecord i r).requesters = s.requesters := by
  unfold State.keepRecord
  split <;> simp

theorem requesters_doLoad (i : Fin 40) (b : Body) : (s.doLoad i b).requesters = s.requesters := by
  unfold State.doLoad
  split_ifs
  · simp
  · simp
  · split
    · simp
    · rfl

@[simp] theorem requesters_routeOrQuiesce (i : Fin 40) : (s.routeOrQuiesce i).requesters = s.requesters := by
  have pends : ((s.setSlotState i .pending).setIntake fun x => { x with pendingList := x.pendingList ++ [i] }).requesters =
      (s.setSlotState i .pending).requesters := rfl
  unfold State.routeOrQuiesce State.routeContext
  split_ifs <;> simp [pends]

theorem requesters_doRun (i : Fin 40) (b : Body) : (s.doRun i b).requesters = s.requesters := by
  unfold State.doRun
  split_ifs <;> simp

theorem requesters_doExchange (i : Fin 40) (b : Body) : (s.doExchange i b).requesters = s.requesters := by
  unfold State.doExchange
  split <;> simp

theorem requesters_doSurvey (i : Fin 40) (b : Body) : (s.doSurvey i b).requesters = s.requesters := by
  unfold State.doSurvey
  split_ifs <;> simp

theorem requesters_acceptStart (i : Fin 40) (n : Fin 8) (b : Body) (last lmax : Nat) :
    (s.acceptStart i n b last lmax).requesters = s.requesters := by
  have placed : (s.placeHold (contextOf n) { first := (u16 b 0x18).toNat, last }).requesters = s.requesters := rfl
  unfold State.acceptStart
  dsimp only
  split_ifs <;> simp [placed]

theorem requesters_doStart (i : Fin 40) (b : Body) : (s.doStart i b).requesters = s.requesters := by
  unfold State.doStart
  dsimp only
  split_ifs
  · simp
  · simp
  · simp
  · split
    · simp
    · exact requesters_acceptStart ..
    · rfl

theorem requesters_doStop (i : Fin 40) (b : Body) : (s.doStop i b).requesters = s.requesters := by
  unfold State.doStop
  dsimp only
  split_ifs <;> simp

theorem requesters_doRelease (i : Fin 40) (b : Body) : (s.doRelease i b).requesters = s.requesters := by
  unfold State.doRelease
  dsimp only
  split_ifs <;> simp

theorem requesters_decideOp (i : Fin 40) (r : Option Result) {accept : State → State}
    (accepts : (accept s).requesters = s.requesters) : (s.decideOp i r accept).requesters = s.requesters := by
  unfold State.decideOp
  split
  · simp
  · split_ifs
    · simp
    · exact accepts

theorem requesters_doReconfigure (i : Fin 40) (b : Body) : (s.doReconfigure i b).requesters = s.requesters := by
  unfold State.doReconfigure
  split_ifs
  · simp
  · exact requesters_decideOp s i _ (by simp [State.acceptReconfigure])

theorem requesters_doRestart (i : Fin 40) (b : Body) : (s.doRestart i b).requesters = s.requesters := by
  unfold State.doRestart
  split_ifs
  · simp
  · exact requesters_decideOp s i _ (by simp [State.acceptRestart])

theorem requesters_doSetAttention (i : Fin 40) (b : Body) : (s.doSetAttention i b).requesters = s.requesters := by
  have set : (s.attentionSet b).requesters = s.requesters := rfl
  unfold State.doSetAttention
  rw [setAttention_eq]
  split_ifs <;> simp [set]

theorem requesters_doQuery (i : Fin 40) (b : Body) : (s.doQuery i b).requesters = s.requesters := by
  have cleared : (if u8 b 0x0D == 1 then s.count fun _ => Stats.zero else s).requesters = s.requesters := by
    split <;> rfl
  exact requesters_ite s (requesters_refuse ..) <| requesters_ite s (requesters_refuse ..) <|
    requesters_ite s (requesters_finish ..) <|
    requesters_ite s ((requesters_finish ..).trans (requesters_post ..)) <|
    requesters_ite s ((requesters_finish ..).trans cleared) <|
    requesters_ite s ((requesters_finish ..).trans (requesters_post ..)) (requesters_finish ..)

theorem requesters_cancelTagged (tag : BitVec 64) (i : CtxId) : (s.cancelTagged tag i).requesters = s.requesters := by
  unfold State.cancelTagged
  split <;> simp

theorem requesters_doCancel (i : Fin 40) (b : Body) : (s.doCancel i b).requesters = s.requesters := by
  have pending : ∀ l : List (Fin 40), ∀ f : Intake → Intake, (f s.intake).taker = s.intake.taker →
      (f s.intake).posting = s.intake.posting →
      (l.foldl (fun s k => s.refuse k .cancelled) (s.setIntake f)).requesters = s.requesters := fun l f taker posting =>
    (requesters_foldl _ (fun s k => requesters_refuse s k .cancelled) l).trans
      (by simp [State.requesters, State.setIntake, taker, posting])
  unfold State.doCancel
  dsimp only
  split_ifs
  · simp
  · rw [requesters_refuse, requesters_cancelTagged, requesters_cancelTagged, pending _ _ rfl rfl]
  · rw [requesters_finish, requesters_cancelTagged, requesters_cancelTagged, pending _ _ rfl rfl]

theorem requesters_doKind (i : Fin 40) (r : Record) : (s.doKind i r).requesters = s.requesters :=
  requesters_ite s (requesters_doLoad ..) <| requesters_ite s (requesters_doRun ..) <|
    requesters_ite s (requesters_doExchange ..) <| requesters_ite s (requesters_doStart ..) <|
    requesters_ite s (requesters_doStop ..) <| requesters_ite s (requesters_doRelease ..) <|
    requesters_ite s (requesters_doSurvey ..) <| requesters_ite s (requesters_doReconfigure ..) <|
    requesters_ite s (requesters_doSetAttention ..) <| requesters_ite s (requesters_doRestart ..) <|
    requesters_ite s (requesters_doQuery ..) <| requesters_ite s (requesters_doCancel ..) (requesters_refuse ..)

/-! ### The source of a load (R7, R8) -/

theorem requesters_endLoad (l : Load) (r : Result) (step written : Nat) :
    (s.endLoad l r step written).requesters = s.requesters :=
  requesters_finish { s with store := { s.store with load := none } } ..

theorem requesters_sourceArrives (l : Load) (image : StepImage) : (s.sourceArrives l image).1.requesters = s.requesters := by
  unfold State.sourceArrives
  split
  · exact requesters_endLoad ..
  · dsimp only
    split_ifs
    · exact requesters_endLoad ..
    · rfl

/-! ### Engine Control -/

theorem requesters_quiesceOne (x : Quiescing) : (s.quiesceOne x).requesters = s.requesters := by
  cases x with
  | pending =>
    unfold State.quiesceOne
    dsimp only
    split
    · rfl
    · exact requesters_refuse ..
  | context i => exact requesters_cancelCtx ..
  | cadence n => exact requesters_cadenceStop ..

theorem requesters_writeCause (v : Word) : (s.writeCause v).requesters = s.requesters := by
  unfold State.writeCause State.sendMessage
  dsimp only
  split_ifs <;> rfl

theorem requesters_writeAnchor (high : Bool) (v : Word) : (s.writeAnchor high v).requesters = s.requesters := by
  unfold State.writeAnchor
  split_ifs <;> rfl

end

end Sys2Proof.Machine
end

section
/-! Every step keeps a requester for each operation of the Queue Unit that still works (R115, R125, R141, R154, R162). -/

namespace Sys2Proof.Machine

open Sys2Proof

variable {s t : State}

/-! ### The invariant -/

theorem requestersOk_iff : s.requestersOk = true ↔ (∀ q, s.working q = true → s.waitsFor q = true) ∧
    (s.working .request = true → s.engine.state ≠ .stopped ∧ s.engine.state ≠ .starting) := by
  have all : ∀ p : Queue → Bool, allQueues.all p = true ↔ ∀ q, p q = true := fun p =>
    ⟨fun h q => List.all_eq_true.1 h q (by cases q <;> simp [allQueues]), fun h => List.all_eq_true.2 fun q _ => h q⟩
  unfold State.requestersOk
  rw [Bool.and_eq_true, all]
  simp only [State.working, Bool.or_eq_true, Bool.not_eq_true', Bool.and_eq_true, bne_iff_ne]
  refine and_congr (forall_congr' fun q => ?_) ?_
  · cases s.phaseIs q (· != .releasing) <;> simp
  · cases s.phaseIs .request (· != .releasing) <;> simp

/-- The invariant speaks of the requesters alone. -/
theorem requestersOk_congr (same : t.requesters = s.requesters) : t.requestersOk = s.requestersOk := by
  obtain ⟨queues, taker, posting, removing, engine⟩ := Requesters.mk.inj same
  simp only [State.requestersOk, State.phaseIs, allQueues, List.all_cons, List.all_nil, State.waitsFor, queues, taker, posting,
    removing, engine]

theorem working_congr (same : t.queues = s.queues) (q : Queue) : t.working q = s.working q := by
  simp only [State.working, State.phaseIs, same]

/-- A change that leaves every requester that is still needed, and the engine's state or one in which requests may work. -/
theorem requestersOk_of_fewer (ok : s.requestersOk = true) (working : ∀ q, t.working q = true → s.working q = true)
    (waits : ∀ q, t.working q = true → s.waitsFor q = true → t.waitsFor q = true)
    (engine : t.engine.state = s.engine.state ∨ t.engine.state ≠ .stopped ∧ t.engine.state ≠ .starting) :
    t.requestersOk = true := by
  obtain ⟨waiting, up⟩ := requestersOk_iff.1 ok
  refine requestersOk_iff.2 ⟨fun q works => waits q works (waiting q (working q works)), fun works => ?_⟩
  rcases engine with same | other
  · rw [same]
    exact up (working _ works)
  · exact other

/-- Raising a fault changes no requester (R165). -/
theorem requestersOk_raise (ok : s.requestersOk = true) (f : PendingFault) : (s.raise f).requestersOk = true := by
  by_cases raises : (s.active || s.engine.state == .starting) = true
  · rw [raise_eq s f raises]
    exact requestersOk_of_fewer ok (fun _ => id) (fun q _ waits => by cases q <;> exact waits) (.inr ⟨nofun, nofun⟩)
  · rw [raise_dropped s f (Bool.eq_false_iff.2 raises)]
    exact ok

/-! ### Operations -/

theorem working_setOp (q r : Queue) (o : Option QueueOp) :
    (s.setOp q o).working r = if q = r then o.any (fun o => o.phase != .releasing) else s.working r := by
  by_cases same : q = r
  · subst same
    rw [if_pos rfl, State.working, State.phaseIs, State.setOp_queues, QueueUnit.op_setOp_same]
    cases o <;> rfl
  · rw [if_neg same, State.working, State.phaseIs, State.setOp_queues, QueueUnit.op_setOp_other _ _ _ _ same]
    rfl

theorem working_of_op {q : Queue} {o : QueueOp} (op : s.queues.op q = some o) : s.working q = (o.phase != .releasing) := by
  simp only [State.working, State.phaseIs, op]

/-- An operation whose access is awaited works. -/
theorem working_of_awaiting {f : Phase → Option Nat} {acc : Nat} {q : Queue} (released : f .releasing = none)
    (awaiting : s.awaiting f acc = some q) : s.working q = true := by
  have stands := List.find?_some awaiting
  unfold State.phaseIs at stands
  split at stands
  · rename_i o op
    rw [working_of_op op, bne_iff_ne]
    intro releasing
    simp [releasing, released] at stands
  · cases stands

/-- An operation that worked may go on in any phase. -/
theorem requestersOk_setOp (ok : s.requestersOk = true) {q : Queue} {o : Option QueueOp}
    (works : o.any (fun o => o.phase != .releasing) = true → s.working q = true) : (s.setOp q o).requestersOk = true := by
  refine requestersOk_of_fewer ok (fun r working => ?_) (fun r _ waits => by cases r <;> exact waits) (.inl rfl)
  rw [working_setOp] at working
  split at working
  · rename_i same
    exact same ▸ works working
  · exact working

/-- Once its lock is being released an operation works no longer, and every other one as before (R129). -/
theorem working_releaseLock (q r : Queue) (f : Option PendingFault) :
    (s.releaseLock q f).working r = (decide (q ≠ r) && s.working r) := by
  have stands : (s.releaseLock q f).working r =
      (s.setOp q ((s.queues.op q).map fun o => { o with phase := .releasing })).working r := by
    cases r <;> rfl
  rw [stands, working_setOp]
  by_cases same : q = r
  · rw [if_pos same]
    cases s.queues.op q <;> simp [same]
  · simp [same]

theorem requestersOk_releaseLock (ok : s.requestersOk = true) (q : Queue) (f : Option PendingFault) :
    (s.releaseLock q f).requestersOk = true := by
  refine requestersOk_of_fewer ok (fun r working => ?_) (fun r _ waits => by cases r <;> exact waits) (.inl rfl)
  rw [working_releaseLock, Bool.and_eq_true] at working
  exact working.2

/-! ### Reports (R130, R131) -/

/-- A requester whose operation works no longer may stop waiting. -/
theorem requestersOk_reporter {q : Queue} (ok : s.requestersOk = true) (ended : s.working q = false)
    (queues : t.queues = s.queues) (others : ∀ r, r ≠ q → t.waitsFor r = s.waitsFor r)
    (engine : t.engine.state = s.engine.state) : t.requestersOk = true := by
  refine requestersOk_of_fewer ok (fun r working => (working_congr queues r).symm.trans working) (fun r working waits => ?_)
    (.inl engine)
  have other : r ≠ q := by
    rintro rfl
    rw [working_congr queues, ended] at working
    cases working
  exact (others r other).trans waits

section
variable (ok : s.requestersOk = true)
include ok

theorem requestersOk_taker (ended : s.working .request = false) {x : TakerState}
    (same : t.requesters = { s.requesters with taker := x }) : t.requestersOk = true := by
  obtain ⟨queues, -, posting, removing, engine⟩ := Requesters.mk.inj same
  refine requestersOk_reporter ok ended queues (fun r other => ?_) engine
  cases r with
  | request => exact absurd rfl other
  | done => exact congrArg Option.isSome posting
  | spare => exact removing

theorem requestersOk_poster (ended : s.working .done = false) {x : Option (Fin 40)}
    (same : t.requesters = { s.requesters with posting := x }) : t.requestersOk = true := by
  obtain ⟨queues, taker, -, removing, engine⟩ := Requesters.mk.inj same
  refine requestersOk_reporter ok ended queues (fun r other => ?_) engine
  cases r with
  | request => exact congrArg (· == TakerState.looking) taker
  | done => exact absurd rfl other
  | spare => exact removing

theorem requestersOk_notice (ended : s.working .spare = false) {x : Bool}
    (same : t.requesters = { s.requesters with removing := x }) : t.requestersOk = true := by
  obtain ⟨queues, taker, posting, -, engine⟩ := Requesters.mk.inj same
  refine requestersOk_reporter ok ended queues (fun r other => ?_) engine
  cases r with
  | request => exact congrArg (· == TakerState.looking) taker
  | done => exact congrArg Option.isSome posting
  | spare => exact absurd rfl other

theorem requestersOk_takerEmpty (ended : s.working .request = false) : s.takerEmpty.requestersOk = true := by
  cases seen : s.intake.promptSeen
  · rw [takerEmpty_asleep seen]
    exact requestersOk_taker ok ended rfl
  · rw [takerEmpty_looks seen]
    exact requestersOk_taker ok ended rfl

theorem requestersOk_takerFrame (ended : s.working .request = false) (k : Nat) : (s.takerFrame k).requestersOk = true := by
  unfold State.takerFrame State.place
  split
  · exact requestersOk_raise ok _
  · refine requestersOk_taker ok ended (x := .dispatching) ?_
    split <;> rfl

theorem requestersOk_noticeEmpty (ended : s.working .spare = false) : s.noticeEmpty.requestersOk = true := by
  rw [noticeEmpty_eq]
  exact requestersOk_notice ok ended rfl

omit ok in
theorem requesters_fillNotice (s : State) (k : Nat) : (s.fillNotice k).requesters = s.requesters := by
  have writes : ∀ kind d body, (s.writeNotice k kind d body).requesters = s.requesters := fun kind d body => by
    simp [State.writeNotice]
  unfold State.fillNotice
  split
  · exact writes ..
  · split
    · exact writes ..
    · exact writes ..

theorem requestersOk_noticeFrame (ended : s.working .spare = false) (k : Nat) : (s.noticeFrame k).requestersOk = true := by
  unfold State.noticeFrame
  split
  · exact requestersOk_raise ok _
  · have filled : ((s.fillNotice k).setNotice fun _ => { removing := false, promptSeen := false, episode := false }).requesters =
        { s.requesters with removing := false } := by
      rw [← requesters_fillNotice s k]
      rfl
    refine requestersOk_notice ok ended (x := false) ?_
    dsimp only
    split
    · rw [requesters_markReady, requesters_setSlot, filled]
    · exact filled

theorem requestersOk_posted (ended : s.working .done = false) (e : Bool) : (s.posted e).requestersOk = true := by
  refine requestersOk_poster ok ended (x := none) ?_
  unfold State.posted
  cases s.intake.posting <;> cases e <;> simp only [requesters_setCause, if_true, Bool.false_eq_true, if_false] <;> rfl

/-- Whoever takes a report of an operation that has ended may do with it what it does (R130, R131). -/
theorem requestersOk_report {q : Queue} (ended : s.working q = false) (r : Report) : (s.report q r).requestersOk = true := by
  cases q with
  | request =>
    cases r with
    | empty => exact requestersOk_takerEmpty ok ended
    | frame k => exact requestersOk_takerFrame ok ended k
    | inserted => exact ok
  | done =>
    cases r with
    | empty | frame => exact ok
    | inserted e => exact requestersOk_posted ok ended e
  | spare =>
    cases r with
    | empty => exact requestersOk_noticeEmpty ok ended
    | frame k => exact requestersOk_noticeFrame ok ended k
    | inserted => exact ok

end

/-! ### Header and link reads (R130, R131, R133) -/

/-- What a header or link read may leave of a queue's operation: the invariant, and with a report no work. -/
structure Leaves (q : Queue) (x : State × Option Report) : Prop where
  ok : x.1.requestersOk = true
  ended : ∀ r, x.2 = some r → x.1.working q = false

theorem Leaves.reported {q : Queue} {x : State × Option Report} (leaves : Leaves q x) :
    (State.reported q x).requestersOk = true := by
  unfold State.reported
  split
  · rename_i r report
    exact requestersOk_report leaves.ok (leaves.ended r report) r
  · exact leaves.ok

/-- A release behind writes, with a report or with none. -/
theorem leaves_released {u : State} (ok : s.requestersOk = true) (writes : u.requesters = s.requesters) (q : Queue)
    (f : Option PendingFault) (r : Option Report) : Leaves q (u.releaseLock q f, r) :=
  ⟨requestersOk_releaseLock ((requestersOk_congr writes).trans ok) q f, fun _ _ => by simp [working_releaseLock]⟩

theorem leaves_headerArrives (ok : s.requestersOk = true) {q : Queue} (works : s.working q = true) (o : QueueOp)
    (head tail count : Word) : Leaves q (s.headerArrives q o head tail count) := by
  have reads : ∀ (x : Nat → Issue) (o' : QueueOp), Leaves q ((s.access x).setOp q (some o'), none) := fun x o' =>
    ⟨requestersOk_setOp (s := s.access x) ok fun _ => works, nofun⟩
  unfold State.headerArrives
  split
  · exact leaves_released ok rfl q _ none
  · by_cases removal : o.frame = 0
    · simp only [if_pos removal]
      split
      · exact leaves_released ok rfl q none _
      · exact reads ..
    · simp only [if_neg removal]
      split
      · exact leaves_released ok (by simp [State.insertFirst]) q none _
      · exact reads ..

theorem leaves_linkArrives (ok : s.requestersOk = true) (q : Queue) (o : QueueOp) (head tail count link : Word) :
    Leaves q (s.linkArrives q o head tail count link) := by
  have unlinks : (s.unlink q link count).requesters = s.requesters := by
    unfold State.unlink
    dsimp only
    rw [requesters_post]
    split <;> simp
  unfold State.linkArrives
  split
  · split
    · exact leaves_released ok unlinks q none _
    · exact leaves_released ok rfl q _ none
  · split
    · exact leaves_released ok (by simp [State.insertBehind]) q none _
    · exact leaves_released ok rfl q _ none

/-! ### The Queue Unit's outcomes and timers (R126 to R129, R134) -/

section
variable (ok : s.requestersOk = true)
include ok

theorem requestersOk_headerOutcome (acc : Nat) (head tail count : Word) :
    (s.headerOutcome acc head tail count).requestersOk = true := by
  unfold State.headerOutcome
  split
  · rename_i q awaiting
    split
    · exact (leaves_headerArrives ok (working_of_awaiting rfl awaiting) ..).reported
    · exact ok
  · exact ok

theorem requestersOk_linkOutcome (acc : Nat) (link : Word) : (s.linkOutcome acc link).requestersOk = true := by
  unfold State.linkOutcome
  split
  · split
    · exact (leaves_linkArrives ok ..).reported
    · exact ok
  · exact ok

theorem requestersOk_claimOutcome (acc : Nat) (found : Option Word) : (s.claimOutcome acc found).requestersOk = true := by
  unfold State.claimOutcome
  split
  · exact ok
  · rename_i q awaiting
    have works := working_of_awaiting rfl awaiting
    split
    · exact ok
    · exact requestersOk_raise ok _
    · split
      · exact requestersOk_setOp (s := s.access _) ok fun _ => works
      · split
        · exact requestersOk_setOp ok fun _ => works
        · exact requestersOk_raise ok _

theorem requestersOk_backoffExpires (q : Queue) : (s.backoffExpires q).requestersOk = true := by
  unfold State.backoffExpires
  split
  · rename_i o op
    split
    · rename_i phase
      have works : s.working q = true := by rw [working_of_op op, phase]; rfl
      split
      · exact requestersOk_setOp ok fun _ => works
      · exact requestersOk_setOp ok fun _ => works
    · exact ok
  · exact ok

theorem requestersOk_contentionExpires (q : Queue) : (s.contentionExpires q).requestersOk = true := by
  unfold State.contentionExpires
  split
  · rename_i o op
    split
    · rename_i phase
      exact requestersOk_setOp ok fun _ => by rw [working_of_op op, phase]; rfl
    · exact ok
  · exact ok

theorem requestersOk_stallExpires (q : Queue) : (s.stallExpires q).requestersOk = true := by
  unfold State.stallExpires
  split
  · rename_i o op
    split
    · rw [requestersOk_congr (requesters_setCause ..)]
      exact requestersOk_setOp ok fun works => (working_of_op op).trans works
    · exact ok
  · exact ok

theorem requestersOk_queueReadFails (acc : Nat) : (s.queueReadFails acc).requestersOk = true := by
  unfold State.queueReadFails
  split
  · exact requestersOk_releaseLock ok ..
  · split
    · split
      · exact requestersOk_releaseLock ok ..
      · exact ok
    · exact ok

theorem requestersOk_releaseOutcome (acc : Nat) (found : Option Word) : (s.releaseOutcome acc found).requestersOk = true := by
  have ends : ∀ q, ({ s with queues := (s.queues.setOp q ((s.queues.op q).bind fun o =>
      if o.phase = .releasing then none else some o)).setLock none } : State).requestersOk = true := fun q =>
    requestersOk_setOp ok fun works => by
      cases op : s.queues.op q with
      | none => simp [op] at works
      | some o =>
        rw [working_of_op op, bne_iff_ne]
        intro releasing
        simp [op, releasing] at works
  unfold State.releaseOutcome
  split
  · split
    · split
      · dsimp only
        split
        · exact requestersOk_raise (ends _) _
        · exact ends _
      · exact requestersOk_raise ok _
    · exact ok
  · exact ok

theorem requestersOk_frameReadFails (acc : Nat) : (s.frameReadFails acc).requestersOk = true := by
  unfold State.frameReadFails
  split
  · split
    · exact requestersOk_raise ok _
    · exact ok
  · exact ok

end

/-! ### The end of an event -/

section
variable (ok : s.requestersOk = true)
include ok

/-- While the engine carries on work, an operation may begin with its requester waiting for it. -/
theorem requestersOk_of_begun (active : s.active = true) (engine : t.engine = s.engine)
    (waits : ∀ q, s.waitsFor q = true → t.waitsFor q = true)
    (ops : ∀ q, t.working q = true → s.working q = true ∨ t.waitsFor q = true) : t.requestersOk = true := by
  have waiting := (requestersOk_iff.1 ok).1
  refine requestersOk_iff.2 ⟨fun q works => (ops q works).elim (fun works => waits q (waiting q works)) id, fun _ => ?_⟩
  rw [engine]
  constructor <;> intro off <;> simp [State.active, off] at active

theorem Wakes.requestersOk (wakes : Wakes s t) (active : s.active = true) (engine : t.engine = s.engine) :
    t.requestersOk = true := by
  refine requestersOk_of_begun ok active engine wakes.waits fun q works => ?_
  rcases wakes.ops q with same | ⟨o, op, due, -⟩ | ⟨-, begins, -⟩
  · exact .inl (by rwa [State.working, State.phaseIs, same] at works)
  · exact .inl (by rw [working_of_op op, due]; rfl)
  · exact .inr begins

theorem Begins.requestersOk (begins : Begins s t) (active : s.active = true) : t.requestersOk = true := by
  refine requestersOk_of_begun ok active begins.engine begins.waits fun q works => ?_
  rcases begins.ops q with same | ⟨-, waits, -⟩
  · exact .inl (by rwa [State.working, State.phaseIs, same] at works)
  · exact .inr waits

end

/-- A QUIESCE reaches its end with no request being looked for (R162). -/
theorem requestersOk_completeQuiesce (ok : s.requestersOk = true) : s.completeQuiesce.requestersOk = true := by
  unfold State.completeQuiesce
  split
  · rename_i ends
    obtain ⟨waiting, -⟩ := requestersOk_iff.1 ok
    simp only [State.quiesced, Bool.and_eq_true, bne_iff_ne] at ends
    have rests : ¬ s.working .request = true := fun works => ends.1.1.2 (beq_iff_eq.1 (waiting .request works))
    refine requestersOk_iff.2 ⟨fun q works => ?_, fun works => absurd works rests⟩
    cases q with
    | request => exact absurd works rests
    | done => exact waiting .done works
    | spare => exact waiting .spare works
  · exact ok

theorem requestersOk_settleIntake (ok : s.requestersOk = true) (before : State) :
    (s.settleIntake before).requestersOk = true := by
  unfold State.settleIntake
  split
  · rename_i active
    obtain ⟨wakes, engine, -⟩ := Wakes.begun s before active
    exact requestersOk_completeQuiesce (wakes.requestersOk ok active engine)
  · exact ok

theorem requestersOk_settle (ok : s.requestersOk = true) (before : State) : (s.settle before).requestersOk = true := by
  unfold State.settle
  split
  · have turns := (Turns.progress Config.eventBound s).reorderMarks s before
    exact requestersOk_settleIntake ((requestersOk_congr turns.requesters).trans ok) before
  · exact ok

/-! ### Requests and the source of a load (R7, R8, R144) -/

section
variable (ok : s.requestersOk = true)
include ok

theorem requestersOk_dispatch (acc : Nat) (r : Record) : (s.dispatch acc r).requestersOk = true := by
  unfold State.dispatch
  split
  · rename_i i _
    have done : ((s.keepRecord i r).doKind i r).requestersOk = true :=
      (requestersOk_congr ((requesters_doKind ..).trans (requesters_keepRecord ..))).trans ok
    dsimp only
    split
    · exact requestersOk_settle done s
    · exact requestersOk_settleIntake done s
  · exact ok

theorem requestersOk_sourceStep (acc : Nat) (image : StepImage) : (s.sourceStep acc image).requestersOk = true := by
  unfold State.sourceStep
  split
  · rename_i l _
    have written := (requestersOk_congr (requesters_sourceArrives s l image)).trans ok
    dsimp only
    split
    · exact requestersOk_settle written s
    · exact written
  · exact ok

theorem requestersOk_sourceFails (acc : Nat) : (s.sourceFails acc).requestersOk = true := by
  unfold State.sourceFails
  split
  · exact requestersOk_settle ((requestersOk_congr (requesters_endLoad ..)).trans ok) s
  · exact ok

/-! ### Engine Control (R157 to R168) -/

theorem requestersOk_enable : s.enable.requestersOk = true := by
  unfold State.enable
  split
  · rename_i stopped
    have starts : ({ s with engine := { s.engine with state := .starting } } : State).requestersOk = true := by
      obtain ⟨waiting, up⟩ := requestersOk_iff.1 ok
      exact requestersOk_iff.2 ⟨fun q works => by cases q <;> exact waiting _ works, fun works => absurd stopped (up works).1⟩
    dsimp only
    split
    · exact requestersOk_raise starts _
    · exact starts
  · exact ok

/-- In STARTING no request is looked for, so the taker may begin afresh (R160, R162). -/
theorem requestersOk_enterRunning (starting : s.engine.state = .starting) (config : AnchorConfig) :
    (s.enterRunning config).requestersOk = true := by
  obtain ⟨waiting, up⟩ := requestersOk_iff.1 ok
  refine requestersOk_iff.2 ⟨fun q works => ?_, fun works => absurd starting (up works).2⟩
  cases q with
  | request => exact absurd starting (up works).2
  | done => exact waiting .done works
  | spare => exact waiting .spare works

theorem requestersOk_anchorOutcome (acc : Nat) (image : Option AnchorImage) :
    (s.anchorOutcome acc image).requestersOk = true := by
  unfold State.anchorOutcome
  split
  · rename_i starting
    split
    · exact requestersOk_raise ok _
    · split
      · exact requestersOk_raise ok _
      · exact requestersOk_settle (requestersOk_enterRunning ok starting.1 _) s
  · exact ok

theorem requestersOk_takerQuiesce : s.takerQuiesce.requestersOk = true := by
  unfold State.takerQuiesce
  split
  · rename_i rests
    refine requestersOk_of_fewer ok (fun _ => id) (fun q _ waits => ?_) (.inl rfl)
    cases q with
    | request => rcases rests with rests | rests <;> simp [State.waitsFor, rests] at waits
    | done | spare => exact waits
  · exact ok

theorem requestersOk_quiesce : s.quiesce.requestersOk = true := by
  unfold State.quiesce
  split
  · have enters : ({ s with engine := { s.engine with state := .quiescing } } : State).requestersOk = true :=
      requestersOk_of_fewer ok (fun _ => id) (fun q _ waits => by cases q <;> exact waits) (.inr ⟨nofun, nofun⟩)
    refine requestersOk_settleIntake ?_ s
    rw [requestersOk_congr (requesters_foldl _ requesters_quiesceOne _), requestersOk_congr (requesters_chose ..)]
    exact requestersOk_takerQuiesce enters
  · exact ok

theorem requestersOk_takerPrompt : s.takerPrompt.requestersOk = true := by
  unfold State.takerPrompt
  split
  · split
    · exact ok
    · rename_i asleep
      refine requestersOk_of_fewer ok (fun _ => id) (fun q _ waits => ?_) (.inl rfl)
      cases q with
      | request => simp [State.waitsFor, asleep] at waits
      | done | spare => exact waits
    · exact ok
  · exact ok

theorem requestersOk_noticePrompt : s.noticePrompt.requestersOk = true := by
  by_cases running : s.engine.state = .running
  · cases removing : s.notice.removing
    · cases due : s.noticeDue
      · rwa [noticePrompt_lost removing due]
      · by_cases full : s.available = 0
        · rw [noticePrompt_full running removing due full]
          exact ok
        · have room : 1 ≤ s.available := Nat.pos_of_ne_zero full
          rw [noticePrompt_begins running removing due room]
          exact (Begins.noticeBegin s (by simp [State.noticeAble, running, removing, due, room])).requestersOk ok
            (by simp [State.active, running])
    · rw [noticePrompt_removing running removing]
      exact ok
  · rwa [noticePrompt_off running]

theorem requestersOk_writePrompt (v : Word) : (s.writePrompt v).requestersOk = true := by
  have first : (if v.getLsbD 0 then s.takerPrompt.settleIntake s else s).requestersOk = true := by
    split
    · exact requestersOk_settleIntake (requestersOk_takerPrompt ok) s
    · exact ok
  unfold State.writePrompt
  dsimp only
  split
  · exact requestersOk_settleIntake (requestersOk_noticePrompt first) _
  · exact first

omit ok in
/-- After a reset the Queue Unit has no operation (R125). -/
theorem requestersOk_softReset (s : State) : s.softReset.requestersOk = true := rfl

theorem requestersOk_writeCommand (v : Word) : (s.writeCommand v).requestersOk = true := by
  unfold State.writeCommand
  split
  · exact requestersOk_enable ok
  · split
    · exact requestersOk_quiesce ok
    · split
      · exact requestersOk_softReset s
      · exact ok

theorem requestersOk_registerWrite (offset bytes : Nat) (v : Word) : (s.registerWrite offset bytes v).requestersOk = true := by
  have anchor : ∀ high, (s.writeAnchor high v).requestersOk = true := fun high =>
    (requestersOk_congr (requesters_writeAnchor ..)).trans ok
  unfold State.registerWrite
  split_ifs
  · exact anchor false
  · exact anchor true
  · exact requestersOk_writeCommand ok v
  · exact requestersOk_writePrompt ok v
  · exact (requestersOk_congr (requesters_writeCause ..)).trans ok
  · exact ok
  · exact ok

/-! ### Commands -/

omit ok in
/-- A microsecond leaves every operation in its phase (R125). -/
theorem working_passMicrosecond (s : State) (q : Queue) : s.passMicrosecond.working q = s.working q := by
  unfold State.passMicrosecond
  split
  · simp only [State.working, State.phaseIs, op_map_tick]
    cases s.queues.op q <;> rfl
  · rfl

theorem requestersOk_tick : s.tick.requestersOk = true := by
  obtain ⟨enable, samples, sampled, -⟩ := sampleEnable_eq (s := s.passMicrosecond)
  have same : s.tick.requesters = s.passMicrosecond.requesters := by
    rw [State.tick, sampled]
    rfl
  rw [requestersOk_congr same]
  refine requestersOk_of_fewer ok (fun q works => (working_passMicrosecond s q).symm.trans works) (fun q _ waits => ?_) (.inl ?_)
  · unfold State.passMicrosecond
    split <;> cases q <;> exact waits
  · unfold State.passMicrosecond
    split <;> rfl

/-- An event adds to its own effect only what follows at its end. -/
theorem requestersOk_event {f : State → State} (effect : (f s).requestersOk = true) : (s.event f).requestersOk = true := by
  unfold State.event
  split
  · exact requestersOk_settle effect s
  · exact ok

theorem requestersOk_intakeEvent {f : State → State} (effect : (f s).requestersOk = true) :
    (s.intakeEvent f).requestersOk = true := by
  unfold State.intakeEvent
  split
  · exact requestersOk_settleIntake effect s
  · exact ok

theorem requestersOk_live (effect : t.requestersOk = true) : (if s.live then t else s).requestersOk = true := by
  split
  · exact effect
  · exact ok

/-- An event that leaves the requesters. -/
theorem requestersOk_apart {f : State → State} (same : (f s).requesters = s.requesters) :
    (s.event f).requestersOk = true :=
  requestersOk_event ok ((requestersOk_congr same).trans ok)

theorem exec_requestersOk {c : Instr} (run : exec c s = .next t) : t.requestersOk = true := by
  cases c <;> cases run
  case powerOnReset | hostLinkReset => rfl
  case resetInputRelease | linkTrained => exact ok
  case enable | quiesce | softReset | promptRequest | promptSpare | causeWrite | anchorWrite | registerWrite =>
    exact requestersOk_registerWrite ok ..
  case anchorReadOutcome => exact requestersOk_live ok (requestersOk_anchorOutcome ok ..)
  case badKind | loadProgram | run | exchange | startCadence | stopCadence | release | survey | reconfigure | setAttention |
      loopRestart | queryStations | queryLoop | queryCadences | queryHolds | cancel =>
    exact requestersOk_live ok (requestersOk_dispatch ok ..)
  case loadSourceArrival => exact requestersOk_live ok (requestersOk_sourceStep ok ..)
  case loadSourceReadFail => exact requestersOk_live ok (requestersOk_sourceFails ok ..)
  case lockClaimOutcome => exact requestersOk_intakeEvent ok (requestersOk_claimOutcome ok ..)
  case lockBackoffExpiry => exact requestersOk_intakeEvent ok (requestersOk_backoffExpires ok ..)
  case contentionPauseExpiry => exact requestersOk_intakeEvent ok (requestersOk_contentionExpires ok ..)
  case stallTimerExpiry => exact requestersOk_intakeEvent ok (requestersOk_stallExpires ok ..)
  case headerReadOutcome => exact requestersOk_intakeEvent ok (requestersOk_headerOutcome ok ..)
  case linkReadOutcome => exact requestersOk_intakeEvent ok (requestersOk_linkOutcome ok ..)
  case queueReadFail => exact requestersOk_intakeEvent ok (requestersOk_queueReadFails ok ..)
  case lockReleaseOutcome => exact requestersOk_intakeEvent ok (requestersOk_releaseOutcome ok ..)
  case frameReadFail => exact requestersOk_intakeEvent ok (requestersOk_frameReadFails ok ..)
  case attentionArrival =>
    exact requestersOk_intakeEvent ok ((requestersOk_congr (requesters_attentionArrives s.framed ..)).trans ok)
  case inputWordArrival => exact requestersOk_apart ok (requesters_inputArrives ..)
  case inputReadFail => exact requestersOk_apart ok (requesters_inputFails ..)
  case pauseExpiry => exact requestersOk_apart ok (requesters_pauseEnds ..)
  case awaitGapExpiry => exact requestersOk_apart ok (requesters_gapEnds ..)
  case frameTransmitEnd => exact requestersOk_apart ok (requesters_transmitEnd s)
  case replyArrival => exact requestersOk_apart ok (requesters_replyArrives s.framed ..)
  case frameReturned => exact requestersOk_apart ok (requesters_frameReturns s.framed ..)
  case badCheckFrame => exact requestersOk_apart ok (requesters_badCheck s.framed)
  case syncArrival => exact requestersOk_apart ok (requesters_syncArrives s.framed ..)
  case unexpectedTypeFrame => exact requestersOk_apart ok (requesters_sequenceFault s.framed)
  case lineLoss => exact requestersOk_apart ok (requesters_lineLost s)
  case replyTimeout => exact requestersOk_apart ok (requesters_deadlineExpires s)
  case quietTimerExpiry => exact requestersOk_apart ok (requesters_quietExpires s)
  case syncTimerExpiry => exact requestersOk_apart ok (requesters_syncExpires s)
  case syncQuietExpiry => exact requestersOk_apart ok (requesters_syncQuietExpires s)
  case cadenceLoopDownStop => exact requestersOk_apart ok (requesters_loopDownStops s)
  case settleTimerExpiry => exact requestersOk_apart ok (requesters_settleEnds s)
  case cadenceTrigger => exact requestersOk_apart ok (requesters_cadenceExpires ..)

theorem step_requestersOk (run : step s = .next t) : t.requestersOk = true := by
  unfold step at run
  split at run
  · cases run
    exact requestersOk_tick ok
  · rename_i rest _
    exact exec_requestersOk (s := { s with pending := rest }) ok run

end

end Sys2Proof.Machine

open Sys2Proof Sys2Proof.Machine

/-- Settles O6: every operation of the part keeps `State.requestersOk`. -/
theorem stepKeepsRequesters : Obligations.StepKeepsRequesters := fun _ _ run ok => step_requestersOk ok run

end

section
/-! The issue log and the access numbers: no operation of the part takes back what has been issued, changes its order, or
counts access numbers down (R123). -/

namespace Sys2Proof.Machine

open Sys2Proof

/-- What `t` has issued begins with what `s` has, and access numbers have not gone back (R123; log entries 3, 4). -/
structure LogGrows (s t : State) : Prop where
  issued : s.link.issued <+: t.link.issued
  nextAcc : s.link.nextAcc ≤ t.link.nextAcc

namespace LogGrows

variable {s t u : State}

theorem of_link (same : t.link = s.link) : LogGrows s t := ⟨⟨[], by rw [same, List.append_nil]⟩, by rw [same]⟩

theorem refl (s : State) : LogGrows s s := .of_link rfl

theorem trans (first : LogGrows s t) (second : LogGrows t u) : LogGrows s u :=
  ⟨first.issued.trans second.issued, first.nextAcc.trans second.nextAcc⟩

/-- A change that issues one access under the next number (log entry 3). -/
theorem of_access {x : Issue} (link : t.link = { nextAcc := s.link.nextAcc + 1, issued := s.link.issued ++ [x] }) :
    LogGrows s t := ⟨⟨[x], by rw [link]⟩, by rw [link]; exact Nat.le_succ _⟩

/-- A change followed by one that the log grows by, named last first. -/
theorem after (second : LogGrows t u) (first : LogGrows s t) : LogGrows s u := first.trans second

/-- A change that both branches of a test make. -/
theorem ite {p : Prop} [Decidable p] (yes : LogGrows s t) (no : LogGrows s u) : LogGrows s (if p then t else u) := by
  split
  · exact yes
  · exact no

/-- The log grows over a fold when it grows by each of its steps. -/
theorem foldl {α : Type} {f : State → α → State} (each : ∀ s a, LogGrows s (f s a)) (s : State) (l : List α) :
    LogGrows s (l.foldl f s) := by
  induction l generalizing s with
  | nil => exact refl s
  | cons a l ih => exact (each s a).trans (ih _)

end LogGrows

section
variable {s t : State}

theorem Carries.grows (carries : Carries s t) : LogGrows s t := by
  obtain ⟨l, issued, -⟩ := carries.issued
  exact ⟨⟨l, issued.symm⟩, carries.nextAcc⟩

theorem Turns.grows (turns : Turns s t) : LogGrows s t := by
  obtain ⟨l, issued, -⟩ := turns.issued
  exact ⟨⟨l, issued.symm⟩, turns.nextAcc⟩

theorem Settles.grows (settles : Settles s t) : LogGrows s t := by
  obtain ⟨l, issued, -⟩ := settles.issued
  exact ⟨⟨l, issued.symm⟩, settles.nextAcc⟩

theorem Wakes.grows (wakes : Wakes s t) : LogGrows s t := by
  rcases wakes.link with link | ⟨-, q, -, link⟩
  · exact ⟨⟨s.linkZero, by rw [link]⟩, by rw [link]⟩
  · exact ⟨⟨s.linkZero ++ _, by rw [link, List.append_assoc]⟩, by rw [link]; exact Nat.le_succ _⟩

end

variable (s : State)

/-! ### Issuing -/

theorem grows_issue (x : Issue) : LogGrows s (s.issue x) := ⟨⟨[x], rfl⟩, Nat.le_refl _⟩

theorem grows_post (a : Addr) (b : List Byte) : LogGrows s (s.post a b) := ((Carries.refl s).post a b).grows

theorem grows_sendMessage : LogGrows s s.sendMessage := .ite (grows_issue ..) (.refl _)

theorem grows_setCause (c : Cause) : LogGrows s (s.setCause c) :=
  have sent : LogGrows s (if s.engine.causes = 0 then s.sendMessage else s) := .ite (grows_sendMessage s) (.refl _)
  sent.trans (.of_link rfl)

theorem grows_raise (f : PendingFault) : LogGrows s (s.raise f) :=
  .ite ((grows_setCause ..).after (.of_link rfl)) (.refl _)

theorem grows_refuse (i : Fin 40) (r : Result) : LogGrows s (s.refuse i r) := ((Carries.refl s).refuse i r).grows

/-- A change that issues nothing, with a frame finished behind it. -/
theorem grows_finish {u : State} (same : u.link = s.link) (i : Fin 40) (d : DoneRecord) (o : Nat) (b : List Byte) :
    LogGrows s (u.finish i d o b) :=
  ((Carries.refl u).finish i d o b).grows.after (.of_link same)

theorem grows_settleIntake (before : State) : LogGrows s (s.settleIntake before) := (Wakes.settleIntake s before).grows

theorem grows_settle (before : State) : LogGrows s (s.settle before) := (Settles.settle s before).grows

theorem link_modStation (a : Nat) (f : Station → Station) : (s.modStation a f).link = s.link := by rw [modStation_eq]

/-! ### Frames handed to their owners (R25, R83) -/

theorem grows_probeOutcome (i : CtxId) (o : FrameOutcome) : LogGrows s (s.probeOutcome i o) := by
  have probed : ∀ a f k, LogGrows s (((s.modStation a f).surveyCount i k).surveyNext i) := fun a f k =>
    (((Carries.refl _).surveyCount i k).surveyNext i).grows.after (.of_link (link_modStation s a f))
  have ends : LogGrows s (s.endCancelled i) := ((Carries.refl s).endCancelled i).grows
  cases o with
  | reply | returned => exact probed ..
  | checkFailure =>
    exact .ite ends (.ite (.of_link rfl) ((((Carries.refl s).setCtx _ _).surveyCount i _).surveyNext i).grows)
  | abandoned => exact .ite ends ((Carries.refl s).halt i _).grows

theorem grows_elementOutcome (i : CtxId) (o : FrameOutcome) : LogGrows s (s.elementOutcome i o) := by
  have heard : ∀ {a f u}, Carries (s.modStation a f) u → LogGrows s u := fun carries =>
    carries.grows.after (.of_link (link_modStation ..))
  have ends : LogGrows s (s.endCancelled i) := ((Carries.refl s).endCancelled i).grows
  cases o with
  | reply ack ready data =>
    refine .ite (heard (((Carries.refl _).setCtx _ _).stepError i _ _ _)) <|
      .ite (heard (((Carries.refl _).setCtx _ _).completeElement i _ _)) ?_
    split
    · exact heard (((Carries.refl _).setCtx _ _).completeElement i _ _)
    · exact heard (((Carries.refl _).setCtx _ _).endShort i)
    · exact heard (((Carries.refl _).setCtx _ _).awaitReady i)
  | returned => exact heard ((Carries.refl _).stepError i _ _ _)
  | checkFailure => exact .ite ends (.ite (.of_link rfl) ((Carries.refl s).stepError i _ _ _).grows)
  | abandoned => exact .ite ends ((Carries.refl s).stepError i _ _ _).grows

theorem grows_deliver (i : CtxId) (o : FrameOutcome) : LogGrows s (s.deliver i o) := by
  unfold State.deliver
  split
  · exact grows_probeOutcome ..
  · exact grows_elementOutcome ..

theorem grows_switchDecided (r : Reconfigure) (o : Outcome40) (x : Option StationState) :
    LogGrows s (s.switchDecided r o x) := by
  have walks : ∀ {u : State}, u.link = s.link → LogGrows s (u.switchNext (r.setOutcome r.current o) r.current) := fun same =>
    (Turns.switchWalk _ (Turns.refl _)).grows.after (.of_link same)
  cases x with
  | none => exact walks rfl
  | some x => exact walks (link_modStation ..)

theorem grows_switchOutcome (o : FrameOutcome) : LogGrows s (s.switchOutcome o) := by
  unfold State.switchOutcome
  split
  · cases o with
    | reply => exact .ite (grows_switchDecided ..) (.ite (grows_switchDecided ..) (grows_switchDecided ..))
    | returned => exact grows_switchDecided ..
    | checkFailure => exact .ite (.of_link rfl) (grows_switchDecided ..)
    | abandoned => exact .refl _
  · exact .refl _

theorem grows_hand (w : Owner) (o : FrameOutcome) : LogGrows s (s.hand w o) := by
  cases w with
  | context i => exact grows_deliver ..
  | reconfigure => exact grows_switchOutcome ..

/-! ### The Loop Port (R54 to R64, R84) -/

theorem grows_lostOrder : LogGrows s s.lostOrder := by
  have quiet : LogGrows s s.enterQuiet := (carries_enterQuiet s).grows.after (.of_link rfl)
  unfold State.lostOrder
  split
  · exact quiet
  · exact quiet
  · unfold State.switchTimeout
    split <;> exact .of_link rfl
  · exact .refl _

theorem grows_sequenceFault : LogGrows s s.sequenceFault := .ite ((grows_lostOrder _).after (.of_link rfl)) (.refl _)

theorem grows_lineLost : LogGrows s s.lineLost := .ite (.refl _) ((grows_lostOrder _).after (.of_link rfl))

theorem grows_deadlineExpires : LogGrows s s.deadlineExpires :=
  .ite ((grows_lostOrder _).after (.of_link rfl)) (.refl _)

theorem grows_replyArrives (q : BitVec 3) (x : BitVec 6) (a r : Bool) (d : Word) :
    LogGrows s (s.replyArrives q x a r d) := by
  unfold State.replyArrives
  split
  · exact .ite ((grows_hand ..).after (.of_link rfl)) (grows_sequenceFault s)
  · exact grows_sequenceFault s

theorem grows_frameReturns (f : LoopFrame) : LogGrows s (s.frameReturns f) := by
  unfold State.frameReturns
  split
  · exact .ite ((grows_hand ..).after (.of_link rfl)) (grows_sequenceFault s)
  · exact grows_sequenceFault s

theorem grows_badCheck : LogGrows s s.badCheck := by
  refine .ite ?_ (.ite (.of_link rfl) (.refl _))
  split
  · exact (grows_hand ..).after (.of_link rfl)
  · exact .of_link rfl

theorem grows_completeOp (r : Result) : LogGrows s (s.completeOp r) := by
  unfold State.completeOp
  dsimp only
  split
  · exact .refl _
  · exact ((Carries.refl _).finish _ _ _ _).grows.after (.of_link rfl)
  · exact ((Carries.refl _).finish _ _ _ _).grows.after (.of_link rfl)

theorem grows_syncArrives (p : Word) : LogGrows s (s.syncArrives p) :=
  .ite (.ite ((grows_completeOp ..).after (.of_link rfl)) (.refl _)) (grows_sequenceFault s)

theorem grows_tellDown (o : Option CtxId) : LogGrows s (s.tellDown o) := by
  cases o with
  | none => exact grows_completeOp ..
  | some i => exact ((Carries.refl s).stepError i .loopDown false false).grows

theorem grows_syncExpires : LogGrows s s.syncExpires := by
  refine .ite (.ite (.of_link rfl) ?_) (.refl _)
  rw [enterDown_eq]
  exact (LogGrows.foldl grows_tellDown _ _).after (.of_link rfl)

theorem grows_quietExpires : LogGrows s s.quietExpires := by
  refine .ite ?_ (.refl _)
  unfold State.quietEnds
  dsimp only
  split
  · exact .of_link rfl
  · exact (Turns.refl _).enterSwitching.grows.after (.of_link rfl)

/-! ### Contexts, cadences and attentions -/

theorem grows_inputArrives (acc : Nat) (w : Word) : LogGrows s (s.inputArrives acc w) := by
  unfold State.inputArrives
  split <;> exact .of_link rfl

theorem grows_inputFails (acc : Nat) : LogGrows s (s.inputFails acc) := by
  unfold State.inputFails
  split
  · exact (((Carries.refl s).setCtx _ _).stepError _ _ _ _).grows
  · exact .refl _

theorem grows_pauseEnds (i : CtxId) : LogGrows s (s.pauseEnds i) :=
  .ite (((Carries.refl s).setCtx _ _).nextStep i).grows (.refl _)

theorem grows_cadenceExpires (n : Fin 8) : LogGrows s (s.cadenceExpires n) :=
  .ite ((Carries.refl s).triggerExpires n).grows (.refl _)

theorem grows_loopDownStops : LogGrows s s.loopDownStops :=
  (LogGrows.foldl (fun s n => ((Carries.refl s).cadenceStop n .loopDown).grows) _ _).after (.of_link rfl)

theorem grows_attentionArrives (a : BitVec 6) (code : Word) : LogGrows s (s.attentionArrives a code) := by
  refine .ite (.ite (.of_link ?_) (.of_link rfl)) (.refl _)
  dsimp only
  split <;> rfl

/-! ### Requests (R144 to R150) -/

theorem grows_setSlotState (i : Fin 40) (x : SlotState) : LogGrows s (s.setSlotState i x) :=
  ((Carries.refl s).setSlotState i x).grows

theorem grows_doLoad (i : Fin 40) (b : Body) : LogGrows s (s.doLoad i b) := by
  refine .ite (grows_refuse ..) (.ite (grows_refuse ..) ?_)
  split
  · exact grows_finish s rfl ..
  · exact .of_access rfl

theorem grows_routeOrQuiesce (i : Fin 40) : LogGrows s (s.routeOrQuiesce i) :=
  have starts := fun c => ((Carries.refl s).startRequest c i).grows
  .ite (grows_refuse ..) <| .ite (starts ctxA) <| .ite (starts ctxB) ((grows_setSlotState s i _).trans (.of_link rfl))

theorem grows_doRun (i : Fin 40) (b : Body) : LogGrows s (s.doRun i b) :=
  .ite (grows_refuse ..) (.ite (grows_refuse ..) (grows_routeOrQuiesce ..))

theorem grows_doExchange (i : Fin 40) (b : Body) : LogGrows s (s.doExchange i b) := by
  unfold State.doExchange
  split
  · exact grows_finish s rfl ..
  · exact grows_routeOrQuiesce ..

theorem grows_doSurvey (i : Fin 40) (b : Body) : LogGrows s (s.doSurvey i b) :=
  .ite (grows_refuse ..) (.ite (grows_refuse ..) (.ite (grows_refuse ..) (grows_routeOrQuiesce ..)))

theorem grows_acceptStart (i : Fin 40) (n : Fin 8) (b : Body) (last lmax : Nat) :
    LogGrows s (s.acceptStart i n b last lmax) :=
  have accepted := (((Carries.refl s).placeHold (contextOf n) { first := (u16 b 0x18).toNat, last }).setCad n
    (Cadence.start i b lmax)).setSlotState i .cadence
  .ite (accepted.triggerExpires n).grows accepted.grows

theorem grows_doStart (i : Fin 40) (b : Body) : LogGrows s (s.doStart i b) := by
  refine .ite (grows_refuse ..) (.ite (grows_refuse ..) (.ite (grows_refuse ..) ?_))
  dsimp only
  split
  · exact grows_finish s rfl ..
  · exact grows_acceptStart ..
  · exact .refl _

theorem grows_doStop (i : Fin 40) (b : Body) : LogGrows s (s.doStop i b) :=
  .ite (grows_refuse ..) <| .ite (grows_refuse ..) (((Carries.refl s).cadenceStop _ _).finish i _ _ _).grows

theorem grows_doRelease (i : Fin 40) (b : Body) : LogGrows s (s.doRelease i b) :=
  .ite (grows_refuse ..) <| .ite (grows_refuse ..) <| .ite (grows_finish s rfl ..) (grows_finish s (by rfl) ..)

theorem grows_decideOp (i : Fin 40) (r : Option Result) {accept : State → State} (accepts : LogGrows s (accept s)) :
    LogGrows s (s.decideOp i r accept) := by
  unfold State.decideOp
  split
  · exact grows_refuse ..
  · exact .ite (grows_refuse ..) accepts

theorem grows_doReconfigure (i : Fin 40) (b : Body) : LogGrows s (s.doReconfigure i b) :=
  .ite (grows_refuse ..) (grows_decideOp s i _ ((grows_setSlotState s i _).trans (.of_link rfl)))

theorem grows_doRestart (i : Fin 40) (b : Body) : LogGrows s (s.doRestart i b) :=
  .ite (grows_refuse ..) (grows_decideOp s i _ ((grows_setSlotState s i _).trans (.of_link rfl)))

theorem grows_doSetAttention (i : Fin 40) (b : Body) : LogGrows s (s.doSetAttention i b) :=
  .ite (grows_refuse ..) (grows_finish s (by rfl) ..)

theorem grows_doQuery (i : Fin 40) (b : Body) : LogGrows s (s.doQuery i b) :=
  have answers := fun a l (d : DoneRecord) => (((Carries.refl s).post a l).finish i d 0 []).grows
  have cleared : LogGrows s (if u8 b 0x0D == 1 then s.count fun _ => Stats.zero else s) := .ite (.of_link rfl) (.refl _)
  .ite (grows_refuse ..) <| .ite (grows_refuse ..) <| .ite (grows_finish s rfl ..) <| .ite (answers ..) <|
    .ite (cleared.trans (grows_finish _ rfl ..)) <| .ite (answers ..) (grows_finish s rfl ..)

theorem grows_doCancel (i : Fin 40) (b : Body) : LogGrows s (s.doCancel i b) := by
  have cancels : ∀ s i, LogGrows s (s.cancelTagged (u64 b 0x00) i) := fun s i =>
    .ite ((Carries.refl s).cancelCtx i _).grows (.refl _)
  have hits := LogGrows.foldl (fun s k => grows_refuse s k .cancelled)
    (s.setIntake fun x => { x with pendingList := x.pendingList.filter fun k => !s.tagged (u64 b 0x00) k })
    (s.intake.pendingList.filter (s.tagged (u64 b 0x00)))
  have running := ((hits.after (s := s) (.of_link rfl)).trans (cancels _ ctxA)).trans (cancels _ ctxB)
  exact .ite (grows_refuse ..) (.ite (running.trans (grows_refuse ..)) (running.trans (grows_finish _ rfl ..)))

theorem grows_doKind (i : Fin 40) (r : Record) : LogGrows s (s.doKind i r) :=
  .ite (grows_doLoad ..) <| .ite (grows_doRun ..) <| .ite (grows_doExchange ..) <| .ite (grows_doStart ..) <|
    .ite (grows_doStop ..) <| .ite (grows_doRelease ..) <| .ite (grows_doSurvey ..) <| .ite (grows_doReconfigure ..) <|
    .ite (grows_doSetAttention ..) <| .ite (grows_doRestart ..) <| .ite (grows_doQuery ..) <|
    .ite (grows_doCancel ..) (grows_refuse ..)

theorem link_keepRecord (i : Fin 40) (r : Record) : (s.keepRecord i r).link = s.link := by
  unfold State.keepRecord
  split <;> rfl

theorem grows_dispatch (acc : Nat) (r : Record) : LogGrows s (s.dispatch acc r) := by
  unfold State.dispatch
  split
  · rename_i i _
    have done := (grows_doKind (s.keepRecord i r) i r).after (.of_link (link_keepRecord s i r))
    exact .ite (done.trans (grows_settle _ s)) (done.trans (grows_settleIntake _ s))
  · exact .refl _

/-! ### The source of a load (R7, R8) -/

theorem grows_endLoad (l : Load) (r : Result) (step written : Nat) : LogGrows s (s.endLoad l r step written) :=
  grows_finish s (by rfl) ..

theorem grows_sourceArrives (l : Load) (image : StepImage) : LogGrows s (s.sourceArrives l image).1 := by
  unfold State.sourceArrives
  split
  · exact grows_endLoad ..
  · dsimp only
    split
    · exact grows_finish s (by rfl) ..
    · exact .of_link rfl

theorem grows_sourceStep (acc : Nat) (image : StepImage) : LogGrows s (s.sourceStep acc image) := by
  unfold State.sourceStep
  split
  · rename_i l _
    have done := grows_sourceArrives s l image
    exact .ite (done.trans (grows_settle _ s)) done
  · exact .refl _

theorem grows_sourceFails (acc : Nat) : LogGrows s (s.sourceFails acc) := by
  unfold State.sourceFails
  split
  · exact (grows_endLoad ..).trans (grows_settle _ s)
  · exact .refl _

/-! ### The queues (chapter 7, sections 6.4 and 8.6) -/

theorem grows_releaseLock (q : Queue) (f : Option PendingFault) : LogGrows s (s.releaseLock q f) := .of_access rfl

theorem grows_takerEmpty : LogGrows s s.takerEmpty := .ite (.of_link rfl) (.of_link rfl)

theorem grows_takerFrame (k : Nat) : LogGrows s (s.takerFrame k) := by
  refine .ite (grows_raise ..) (.after (.of_access rfl) (.of_link ?_))
  show (s.place _).link = s.link
  unfold State.place
  split <;> rfl

theorem grows_noticeEmpty : LogGrows s s.noticeEmpty := by
  rw [noticeEmpty_eq]
  exact ⟨⟨_, rfl⟩, Nat.le_refl _⟩

theorem grows_fillNotice (k : Nat) : LogGrows s (s.fillNotice k) := by
  have writes : ∀ kind d body, LogGrows s (s.writeNotice k kind d body) := fun kind d body =>
    ((((Carries.refl s).post _ _).post _ _).post _ _).grows
  unfold State.fillNotice
  split
  · exact (writes ..).trans (.of_link rfl)
  · split
    · exact (writes ..).trans (.of_link rfl)
    · exact writes ..

theorem grows_noticeFrame (k : Nat) : LogGrows s (s.noticeFrame k) := by
  have filled := (grows_fillNotice s k).trans
    (.of_link (t := (s.fillNotice k).setNotice fun _ => { removing := false, promptSeen := false, episode := false }) rfl)
  refine .ite (grows_raise ..) ?_
  split
  · exact filled.trans (((Carries.refl _).setSlot _ _).markReady _).grows
  · exact filled

theorem grows_posted (e : Bool) : LogGrows s (s.posted e) := by
  unfold State.posted
  split
  · exact .ite ((grows_setCause ..).after (.of_link rfl)) (.of_link rfl)
  · exact .ite ((grows_setCause ..).after (.of_link rfl)) (.of_link rfl)

theorem grows_report (q : Queue) (r : Report) : LogGrows s (s.report q r) := by
  unfold State.report
  split
  · exact grows_takerEmpty s
  · exact grows_takerFrame ..
  · exact grows_noticeEmpty s
  · exact grows_noticeFrame ..
  · exact grows_posted ..
  · exact .refl _

theorem grows_reported (q : Queue) {x : State × Option Report} (arrived : LogGrows s x.1) :
    LogGrows s (State.reported q x) := by
  unfold State.reported
  split
  · exact arrived.trans (grows_report ..)
  · exact arrived

theorem grows_headerArrives (q : Queue) (o : QueueOp) (head tail count : Word) :
    LogGrows s (s.headerArrives q o head tail count).1 := by
  unfold State.headerArrives
  split
  · exact grows_releaseLock ..
  · by_cases removal : o.frame = 0
    · simp only [if_pos removal]
      split
      · exact grows_releaseLock ..
      · exact .of_access rfl
    · simp only [if_neg removal]
      split
      · exact (grows_releaseLock ..).after ((((Carries.refl s).post _ _).post _ _).post _ _).grows
      · exact .of_access rfl

theorem grows_unlink (q : Queue) (link count : Word) : LogGrows s (s.unlink q link count) :=
  have emptied : ∀ u : State, LogGrows u (if link = 0 then u.post (s.headerAddr q + 8) (zeros 4) else u) := fun _ =>
    .ite (grows_post ..) (.refl _)
  ((grows_post ..).trans (emptied _)).trans (grows_post ..)

theorem grows_linkArrives (q : Queue) (o : QueueOp) (head tail count link : Word) :
    LogGrows s (s.linkArrives q o head tail count link).1 := by
  unfold State.linkArrives
  split
  · split
    · exact (grows_unlink s q link count).trans (grows_releaseLock ..)
    · exact grows_releaseLock ..
  · split
    · exact (grows_releaseLock ..).after ((((Carries.refl s).post _ _).post _ _).post _ _).grows
    · exact grows_releaseLock ..

theorem grows_headerOutcome (acc : Nat) (head tail count : Word) : LogGrows s (s.headerOutcome acc head tail count) := by
  unfold State.headerOutcome
  split
  · split
    · exact grows_reported _ _ (grows_headerArrives ..)
    · exact .refl _
  · exact .refl _

theorem grows_linkOutcome (acc : Nat) (link : Word) : LogGrows s (s.linkOutcome acc link) := by
  unfold State.linkOutcome
  split
  · split
    · exact grows_reported _ _ (grows_linkArrives ..)
    · exact .refl _
  · exact .refl _

theorem grows_claimOutcome (acc : Nat) (found : Option Word) : LogGrows s (s.claimOutcome acc found) := by
  unfold State.claimOutcome
  split
  · exact .refl _
  · split
    · exact .refl _
    · exact grows_raise ..
    · exact .ite (.of_access rfl) (.ite (.of_link rfl) (grows_raise ..))

theorem grows_backoffExpires (q : Queue) : LogGrows s (s.backoffExpires q) := by
  unfold State.backoffExpires
  split
  · exact .ite (.ite (.of_link rfl) (.of_link rfl)) (.refl _)
  · exact .refl _

theorem grows_contentionExpires (q : Queue) : LogGrows s (s.contentionExpires q) := by
  unfold State.contentionExpires
  split
  · exact .ite (.of_link rfl) (.refl _)
  · exact .refl _

theorem grows_stallExpires (q : Queue) : LogGrows s (s.stallExpires q) := by
  unfold State.stallExpires
  split
  · exact .ite ((grows_setCause ..).after (.of_link rfl)) (.refl _)
  · exact .refl _

theorem grows_queueReadFails (acc : Nat) : LogGrows s (s.queueReadFails acc) := by
  unfold State.queueReadFails
  split
  · exact grows_releaseLock ..
  · split
    · split
      · exact grows_releaseLock ..
      · exact .refl _
    · exact .refl _

theorem grows_releaseOutcome (acc : Nat) (found : Option Word) : LogGrows s (s.releaseOutcome acc found) := by
  unfold State.releaseOutcome
  split
  · refine .ite (.ite ?_ (grows_raise ..)) (.refl _)
    dsimp only
    split
    · exact (grows_raise _ _).after (.of_link rfl)
    · exact .of_link rfl
  · exact .refl _

theorem grows_frameReadFails (acc : Nat) : LogGrows s (s.frameReadFails acc) := by
  unfold State.frameReadFails
  split
  · split
    · exact grows_raise ..
    · exact .refl _
  · exact .refl _

/-! ### Engine Control and the registers (chapter 9) -/

theorem grows_enable : LogGrows s s.enable :=
  .ite (.ite ((grows_raise _ _).after (.of_link rfl)) (.of_access rfl)) (.refl _)

theorem grows_anchorOutcome (acc : Nat) (image : Option AnchorImage) : LogGrows s (s.anchorOutcome acc image) := by
  refine .ite ?_ (.refl _)
  split
  · exact grows_raise ..
  · split
    · exact grows_raise ..
    · exact (grows_settle _ s).after (.of_link rfl)

theorem grows_quiesceOne (x : Quiescing) : LogGrows s (s.quiesceOne x) := by
  cases x with
  | pending =>
    unfold State.quiesceOne
    dsimp only
    split
    · exact .refl _
    · exact (grows_refuse ..).after (.of_link rfl)
  | context i => exact ((Carries.refl s).cancelCtx i _).grows
  | cadence n => exact ((Carries.refl s).cadenceStop n _).grows

theorem link_takerQuiesce : s.takerQuiesce.link = s.link := by
  unfold State.takerQuiesce
  split <;> rfl

theorem grows_quiesce : LogGrows s s.quiesce :=
  .ite ((grows_settleIntake _ s).after
    ((LogGrows.foldl grows_quiesceOne _ _).after (.of_link (link_takerQuiesce { s with engine := _ })))) (.refl _)

theorem grows_takerPrompt : LogGrows s s.takerPrompt := by
  refine .ite ?_ (.refl _)
  split <;> exact .of_link rfl

theorem grows_noticeBegin : LogGrows s s.noticeBegin := by
  rw [noticeBegin_eq]
  exact .of_link rfl

theorem grows_noticePrompt : LogGrows s s.noticePrompt :=
  .ite (.ite (.of_link rfl) (.ite (.ite (grows_noticeBegin s) (.ite (.of_link rfl) (.refl _))) (.refl _))) (.refl _)

theorem grows_writePrompt (v : Word) : LogGrows s (s.writePrompt v) :=
  have first : LogGrows s (if v.getLsbD 0 then s.takerPrompt.settleIntake s else s) :=
    .ite ((grows_takerPrompt s).trans (grows_settleIntake _ s)) (.refl _)
  .ite (first.trans ((grows_noticePrompt _).trans (grows_settleIntake ..))) first

theorem grows_writeCause (v : Word) : LogGrows s (s.writeCause v) :=
  .ite (.of_link rfl) ((grows_sendMessage _).after (.of_link rfl))

theorem grows_registerWrite (offset bytes : Nat) (v : Word) : LogGrows s (s.registerWrite offset bytes v) :=
  have anchor : ∀ high, LogGrows s (s.writeAnchor high v) := fun _ => .ite (.ite (.of_link rfl) (.of_link rfl)) (.refl _)
  have command : LogGrows s (s.writeCommand v) :=
    .ite (grows_enable s) (.ite (grows_quiesce s) (.ite (.of_link rfl) (.refl _)))
  .ite (.ite (anchor _) <| .ite (anchor _) <| .ite command <| .ite (grows_writePrompt ..) <|
    .ite (grows_writeCause ..) (.refl _)) (.refl _)

/-! ### Commands -/

theorem grows_tick : LogGrows s s.tick :=
  have passed : LogGrows s s.passMicrosecond := .ite (.of_link rfl) (.refl _)
  passed.trans (.ite (.of_link rfl) (.refl _))

theorem grows_event {f : State → State} (effect : LogGrows s (f s)) : LogGrows s (s.event f) :=
  .ite (effect.trans (grows_settle _ s)) (.refl _)

theorem grows_intakeEvent {f : State → State} (effect : LogGrows s (f s)) : LogGrows s (s.intakeEvent f) :=
  .ite (effect.trans (grows_settleIntake _ s)) (.refl _)

theorem grows_live {t : State} (effect : LogGrows s t) : LogGrows s (if s.live then t else s) := .ite effect (.refl _)

/-- No reset clears the log, and no command takes anything back (log entry 4). -/
theorem exec_grows {c : Instr} {t : State} (run : exec c s = .next t) : LogGrows s t := by
  cases c <;> cases run
  case powerOnReset | hostLinkReset | resetInputRelease | linkTrained => exact .of_link rfl
  case enable | quiesce | softReset | promptRequest | promptSpare | causeWrite | anchorWrite | registerWrite =>
    exact grows_registerWrite ..
  case anchorReadOutcome => exact grows_live s (grows_anchorOutcome ..)
  case badKind | loadProgram | run | exchange | startCadence | stopCadence | release | survey | reconfigure | setAttention |
      loopRestart | queryStations | queryLoop | queryCadences | queryHolds | cancel =>
    exact grows_live s (grows_dispatch ..)
  case loadSourceArrival => exact grows_live s (grows_sourceStep ..)
  case loadSourceReadFail => exact grows_live s (grows_sourceFails ..)
  case lockClaimOutcome => exact grows_intakeEvent s (grows_claimOutcome ..)
  case lockBackoffExpiry => exact grows_intakeEvent s (grows_backoffExpires ..)
  case contentionPauseExpiry => exact grows_intakeEvent s (grows_contentionExpires ..)
  case stallTimerExpiry => exact grows_intakeEvent s (grows_stallExpires ..)
  case headerReadOutcome => exact grows_intakeEvent s (grows_headerOutcome ..)
  case linkReadOutcome => exact grows_intakeEvent s (grows_linkOutcome ..)
  case queueReadFail => exact grows_intakeEvent s (grows_queueReadFails ..)
  case lockReleaseOutcome => exact grows_intakeEvent s (grows_releaseOutcome ..)
  case frameReadFail => exact grows_intakeEvent s (grows_frameReadFails ..)
  case attentionArrival => exact grows_intakeEvent s ((grows_attentionArrives s.framed ..).after (.of_link rfl))
  case inputWordArrival => exact grows_event s (grows_inputArrives ..)
  case inputReadFail => exact grows_event s (grows_inputFails ..)
  case pauseExpiry => exact grows_event s (grows_pauseEnds ..)
  case awaitGapExpiry => exact grows_event s (.ite (.of_link rfl) (.refl _))
  case frameTransmitEnd => exact grows_event s (.ite (.of_link rfl) (.refl _))
  case replyArrival => exact grows_event s ((grows_replyArrives s.framed ..).after (.of_link rfl))
  case frameReturned => exact grows_event s ((grows_frameReturns s.framed _).after (.of_link rfl))
  case badCheckFrame => exact grows_event s ((grows_badCheck s.framed).after (.of_link rfl))
  case syncArrival => exact grows_event s ((grows_syncArrives s.framed _).after (.of_link rfl))
  case unexpectedTypeFrame => exact grows_event s ((grows_sequenceFault s.framed).after (.of_link rfl))
  case lineLoss => exact grows_event s (grows_lineLost s)
  case replyTimeout => exact grows_event s (grows_deadlineExpires s)
  case quietTimerExpiry => exact grows_event s (grows_quietExpires s)
  case syncTimerExpiry => exact grows_event s (grows_syncExpires s)
  case syncQuietExpiry => exact grows_event s (.ite (.of_link rfl) (.refl _))
  case cadenceLoopDownStop => exact grows_event s (grows_loopDownStops s)
  case settleTimerExpiry => exact grows_event s (.ite (.of_link rfl) (.refl _))
  case cadenceTrigger => exact grows_event s (grows_cadenceExpires ..)

theorem step_grows {t : State} (run : step s = .next t) : LogGrows s t := by
  unfold step at run
  split at run
  · cases run
    exact grows_tick s
  · exact (exec_grows { s with pending := _ } run).after (.of_link rfl)

end Sys2Proof.Machine

open Sys2Proof Sys2Proof.Machine

/-- Settles O7: every operation of the part only adds to the log (`LogGrows`). -/
theorem stepAppendsToIssueLog : Obligations.StepAppendsToIssueLog := fun _ _ run =>
  have grows := step_grows _ run
  ⟨grows.issued.imp fun _ => Eq.symm, grows.nextAcc⟩

end

section
/-! The claim, its backoff and its timers: what the outcome of a claim makes of the operation, and when the next attempt goes
out (R124, R126 to R128). -/

namespace Sys2Proof.Machine

open Sys2Proof

variable {s : State} {q : Queue} {o : QueueOp}

/-- An event of Intake or the Queue Unit that raises a fault ends in FAULTED: nothing follows it (R165). -/
theorem intakeEvent_faults {c : Instr} (f : State → State) {u : State} {p : PendingFault}
    (runs : exec c s = .next (s.intakeEvent f)) (live : s.live = true) (effect : f s = u.raise p) (active : u.active = true) :
    exec c s = .next (u.faulted p.code p.detail) := by
  rw [runs, intakeEvent_eq live, effect, raise_eq u p (by rw [active]; rfl), settleIntake_faulted]

/-! ### The claim's outcome (R126) -/

/-- The state with a failed attempt backing off (R127, R128). -/
def State.backedOff (s : State) (q : Queue) (o : QueueOp) : State :=
  { s with queues := s.queues.setOp q (some { o with
      phase := .backingOff, timer := some (2 * o.attempt),
      stall := if o.stalled = true then none else some (o.stall.getD 1000000) }) }

section
variable {acc : Nat} (awaiting : s.awaiting Phase.claim acc = some q) (op : s.queues.op q = some o)
include awaiting op

/-- The lock was free: it is the part's, and the header is read (R126). -/
theorem claimOutcome_takes : s.claimOutcome acc (some 0) = { s with
    queues := (s.queues.setOp q (some { o with
      phase := .readingHeader s.link.nextAcc, timer := none, stall := none, stalled := false })).setLock
        (some { queue := q, release := none, fault := none }),
    link := { nextAcc := s.link.nextAcc + 1,
              issued := s.link.issued ++ [.read s.link.nextAcc (s.headerAddr q + 4) 12] } } := by
  simp only [State.claimOutcome, awaiting, op, if_true]
  rfl

/-- The lock was held, by the host or by the part itself (R126 to R128). -/
theorem claimOutcome_fails {w : Word} (held : w = 1 ∨ w = 2) : s.claimOutcome acc (some w) = s.backedOff q o := by
  have stall : o.stall.or (some Config.stallTime) = some (o.stall.getD 1000000) := by cases o.stall <;> rfl
  have taken : w ≠ 0 := by rcases held with rfl | rfl <;> decide
  simp only [State.claimOutcome, awaiting, op, if_neg taken, if_pos held, QueueOp.fail, stall]
  rfl

theorem claimOutcome_failed : s.claimOutcome acc none =
    s.raise { code := .hostReadFault, detail := queueDetail (some q) 0 } := by
  simp only [State.claimOutcome, awaiting, op]

theorem claimOutcome_damaged {w : Word} (other : 2 < w.toNat) : s.claimOutcome acc (some w) =
    s.raise { code := .queueDamaged, detail := queueDetail (some q) 0 } := by
  have taken : w ≠ 0 := by rintro rfl; exact absurd other (by decide)
  have damaged : ¬ (w = 1 ∨ w = 2) := by rintro (rfl | rfl) <;> exact absurd other (by decide)
  simp only [State.claimOutcome, awaiting, op, if_neg taken, if_neg damaged]

end

/-! ### The next attempt (R124, R127) -/

theorem phaseIs_of_setOp {t : State} (queues : t.queues = s.queues.setOp q (some o)) (r : Queue) (f : Phase → Bool) :
    t.phaseIs r f = if r = q then f o.phase else s.phaseIs r f := by
  unfold State.phaseIs
  rw [queues]
  by_cases same : r = q
  · rw [if_pos same, same, QueueUnit.op_setOp_same]
  · rw [if_neg same, QueueUnit.op_setOp_other _ _ _ _ (Ne.symm same)]

/-- When no claim was due, the one that falls due is the only one. -/
theorem deferredQueues_of_setOp {t : State} (queues : t.queues = s.queues.setOp q (some o)) (due : o.phase = .deferred)
    (none : s.deferredQueues = []) : t.deferredQueues = [q] := by
  have others : ∀ r, s.phaseIs r (· == .deferred) = false := fun r =>
    Bool.eq_false_iff.2 (List.filter_eq_nil_iff.1 none r (by cases r <;> simp [allQueues]))
  have only : ∀ r, t.phaseIs r (· == .deferred) = decide (r = q) := fun r => by
    rw [phaseIs_of_setOp queues, due, others]
    split <;> simp [*]
  unfold State.deferredQueues
  simp only [only]
  cases q <;> rfl

/-- An operation that does not claim leaves a claim free to go out. -/
theorem mayClaim_of_setOp {t : State} (queues : t.queues = s.queues.setOp q (some o)) (other : o.phase.isClaiming = false)
    (may : s.mayClaim = true) : t.mayClaim = true := by
  simp only [State.mayClaim, Bool.and_eq_true, Bool.not_eq_true', List.any_eq_false] at may ⊢
  obtain ⟨lock, claims⟩ := may
  refine ⟨by rw [queues, QueueUnit.lock_setOp]; exact lock, fun r mem => ?_⟩
  rw [phaseIs_of_setOp queues]
  split
  · simp [other]
  · exact claims r mem

/-- The state with attempt `n` of an operation's try due (R127). -/
def State.claimDue (s : State) (q : Queue) (o : QueueOp) (n : Nat) : State :=
  { s with queues := s.queues.setOp q (some { o with phase := .deferred, attempt := n, timer := none }) }

/-- While its requester waits, an operation that is due is not given up. -/
theorem Wakes.claims_due {t : State} {n : Nat} (wakes : Wakes (s.claimDue q o n) t) (waits : s.waitsFor q = true) :
    ∃ p, t.queues.op q = some { o with phase := p, attempt := n, timer := none } ∧
      (p = .deferred ∨ p = .claiming s.link.nextAcc) := by
  have op : (s.claimDue q o n).queues.op q = some { o with phase := .deferred, attempt := n, timer := none } :=
    QueueUnit.op_setOp_same ..
  rcases wakes.ops q with same | ⟨due, found, -, claimed⟩ | ⟨idle, -⟩
  · exact ⟨_, same.trans op, .inl rfl⟩
  · cases op.symm.trans found
    exact ⟨_, claimed, .inr rfl⟩
  · have still : (s.claimDue q o n).waitsFor q = s.waitsFor q := by cases q <;> rfl
    rw [still, waits] at idle
    cases idle

theorem intakeRests_iff : s.intakeRests = true ↔
    s.takerRests = true ∧ s.posterRests = true ∧ s.noticeAble = false ∧ s.deferredQueues = [] := by
  simp [State.intakeRests, and_assoc]

/-- With nothing else to do and the lock free the attempt goes out in the event (R124). -/
theorem settleIntake_claimDue {n : Nat} (running : s.engine.state = .running) (rests : s.intakeRests = true)
    (may : s.mayClaim = true) : (s.claimDue q o n).settleIntake s = { s with
      queues := s.queues.setOp q (some { o with phase := .claiming s.link.nextAcc, attempt := n, timer := none }),
      link := { nextAcc := s.link.nextAcc + 1,
                issued := s.link.issued ++ [.compareSwap s.link.nextAcc (s.headerAddr q) 0 2] } } := by
  obtain ⟨taker, poster, notice, none⟩ := intakeRests_iff.1 rests
  have again : ∀ a b, (s.queues.setOp q a).setOp q b = s.queues.setOp q b := fun _ _ => by cases q <;> rfl
  rw [settleIntake_claims (s := s.claimDue q o n) s running taker poster notice (deferredQueues_of_setOp rfl rfl none)
    (mayClaim_of_setOp rfl rfl may) (QueueUnit.op_setOp_same ..)]
  simp only [State.claimDue, again]
  rfl

/-! ### The backoff and the contention pause (R127) -/

section
variable (op : s.queues.op q = some o)
include op

theorem backoffExpires_due (backs : o.phase = .backingOff) (early : o.attempt < 16) :
    s.backoffExpires q = s.claimDue q o (o.attempt + 1) := by
  simp only [State.backoffExpires, op, if_pos backs, if_pos (show o.attempt < Config.lockAttempts from early)]
  rfl

theorem backoffExpires_pauses (backs : o.phase = .backingOff) (last : 16 ≤ o.attempt) : s.backoffExpires q =
    { s with queues := s.queues.setOp q (some { o with phase := .paused, timer := some 100 }) } := by
  simp only [State.backoffExpires, op, if_pos backs, if_neg (show ¬ o.attempt < Config.lockAttempts from Nat.not_lt.2 last)]
  rfl

theorem backoffExpires_ignored (other : o.phase ≠ .backingOff) : s.backoffExpires q = s := by
  simp only [State.backoffExpires, op, if_neg other]

theorem contentionExpires_due (pauses : o.phase = .paused) : s.contentionExpires q = s.claimDue q o 1 := by
  simp only [State.contentionExpires, op, if_pos pauses]
  rfl

theorem contentionExpires_ignored (other : o.phase ≠ .paused) : s.contentionExpires q = s := by
  simp only [State.contentionExpires, op, if_neg other]

/-! ### The stall timer (R128) -/

theorem stallExpires_stalls (runs : o.stall.isSome = true) : s.stallExpires q = { s with
    engine := { s.engine with causes := s.engine.causes ||| 4 },
    queues := s.queues.setOp q (some { o with stall := none, stalled := true }),
    link := { s.link with issued := s.link.issued ++
      if s.engine.causes = 0 ∧ s.engine.messageEnable = true then [.message] else [] } } := by
  simp only [State.stallExpires, op, if_pos runs, setCause_eq]
  rfl

theorem stallExpires_ignored (stopped : o.stall = none) : s.stallExpires q = s := by
  simp [State.stallExpires, op, stopped]

end

end Sys2Proof.Machine

open Sys2Proof Sys2Proof.Machine

/-- Settles O23: one clause for each value that the compare-and-swap can find, and one for its failure. -/
theorem claimTakesLockOrBacksOff : Obligations.ClaimTakesLockOrBacksOff := by
  intro s acc q o live awaiting op
  have arrives : ∀ {found : Option Word} {u : State}, s.claimOutcome acc found = u →
      ∃ t, exec (.lockClaimOutcome acc found) s = .next t ∧ Wakes u t := fun effect => intakeEvent_wakes rfl live effect
  refine ⟨?_, fun w held => ?_, fun active => ⟨?_, fun w other => ?_⟩⟩
  · obtain ⟨t, run, wakes⟩ := arrives (claimOutcome_takes awaiting op)
    exact ⟨t, _, run, wakes, rfl⟩
  · obtain ⟨t, run, wakes⟩ := arrives (claimOutcome_fails awaiting op held)
    exact ⟨t, _, run, wakes, rfl⟩
  · exact intakeEvent_faults (·.claimOutcome acc none) rfl live (claimOutcome_failed awaiting op) active
  · exact intakeEvent_faults (·.claimOutcome acc (some w)) rfl live (claimOutcome_damaged awaiting op other) active

/-- Settles O24: by the phase and the attempt that the expiry finds. -/
theorem backoffLeadsToNextAttempt : Obligations.BackoffLeadsToNextAttempt := by
  intro s q o live op due claims
  have backs : ∀ {u}, s.backoffExpires q = u → ∃ t, exec (.lockBackoffExpiry q) s = .next t ∧ Wakes u t :=
    fun effect => intakeEvent_wakes rfl live effect
  have pauses : ∀ {u}, s.contentionExpires q = u → ∃ t, exec (.contentionPauseExpiry q) s = .next t ∧ Wakes u t :=
    fun effect => intakeEvent_wakes rfl live effect
  refine ⟨fun acc w awaiting held => intakeEvent_wakes rfl live (claimOutcome_fails awaiting op held),
    fun phase early => ?_, fun phase last => backs (backoffExpires_pauses op phase last), fun phase => ?_,
    fun running rests may => ⟨fun phase early => ?_, fun phase => ?_⟩,
    fun other => backs (backoffExpires_ignored op other), fun other => pauses (contentionExpires_ignored op other)⟩
  · obtain ⟨t, run, wakes⟩ := backs (backoffExpires_due op phase early)
    exact ⟨t, run, wakes, wakes.claims_due⟩
  · obtain ⟨t, run, wakes⟩ := pauses (contentionExpires_due op phase)
    exact ⟨t, run, wakes, wakes.claims_due⟩
  · show Host.Outcome.next (s.intakeEvent (·.backoffExpires q)) = _
    rw [intakeEvent_eq live, backoffExpires_due op phase early, settleIntake_claimDue running rests may]
  · show Host.Outcome.next (s.intakeEvent (·.contentionExpires q)) = _
    rw [intakeEvent_eq live, contentionExpires_due op phase, settleIntake_claimDue running rests may]

/-- Settles O25: a timer that runs sets the cause, one that does not is ignored. -/
theorem stallTimerSetsStall : Obligations.StallTimerSetsStall := by
  intro s q o live op
  refine ⟨fun runs => ?_, fun stopped => intakeEvent_wakes rfl live (stallExpires_ignored op stopped)⟩
  obtain ⟨t, run, wakes⟩ := intakeEvent_wakes (c := .stallTimerExpiry q) (f := (·.stallExpires q)) rfl live
    (stallExpires_stalls op runs)
  exact ⟨t, _, run, wakes, rfl⟩

end

section
/-! The release of a lock, and what it ends: a read that fails or finds a damaged queue, and a removal from the request queue
(R129, R130, R132 to R134, R143, R144). -/

namespace Sys2Proof.Machine

open Sys2Proof

variable {s : State} {q : Queue} {o : QueueOp} {acc : Nat}

/-! ### The release's outcome (R129, R133, R134) -/

/-- The state with a queue's lock free and its operation over, unless a new one has taken its place (R129). -/
def State.lockFreed (s : State) (q : Queue) : State :=
  { s with queues := (s.queues.setOp q ((s.queues.op q).filter fun o : QueueOp => o.phase != Phase.releasing)).setLock none }

section
variable {f : Option PendingFault} (lock : s.queues.lock = some { queue := q, release := some acc, fault := f })
include lock

theorem releaseOutcome_freed : s.releaseOutcome acc (some 2) = f.elim (s.lockFreed q) (s.lockFreed q).raise := by
  have ended : ((s.queues.op q).bind fun o => if o.phase = .releasing then none else some o) =
      (s.queues.op q).filter fun o : QueueOp => o.phase != Phase.releasing := by
    cases s.queues.op q with
    | none => rfl
    | some o => by_cases releasing : o.phase = .releasing <;> simp [releasing, Option.filter]
  simp only [State.releaseOutcome, lock, if_true, ended]
  cases f <;> rfl

theorem releaseOutcome_fails {found : Option Word} (other : found ≠ some 2) :
    s.releaseOutcome acc found = s.raise { code := .lockReleaseFault, detail := queueDetail (some q) 0 } := by
  simp only [State.releaseOutcome, lock, if_true, if_neg other]

end

/-! ### Header checks that fail (R132) -/

section
variable {n head tail count : Word} {frame : Nat}

/-- What R132 asks of a header, the frame to insert apart: agreement, count, range and, for an insertion, room. -/
def headerSound (n : Word) (frame : Nat) (head tail count : Word) : Prop :=
  (head = 0 ↔ tail = 0) ∧ (count = 0 ↔ head = 0) ∧ head.toNat ≤ n.toNat ∧ tail.toNat ≤ n.toNat ∧ count.toNat ≤ n.toNat ∧
    (frame ≠ 0 → count.toNat ≠ n.toNat)

theorem headerCheck_unsound (unsound : ¬ headerSound n frame head tail count) :
    headerCheck n frame head tail count = some 0 := by
  by_contra passes
  unfold headerCheck at passes
  split at passes
  · exact passes rfl
  · rename_i agreement
    split at passes
    · exact passes rfl
    · rename_i counted
      split at passes
      · exact passes rfl
      · rename_i range
        split at passes
        · exact passes rfl
        · rename_i room
          exact unsound ⟨by simpa using agreement, by simpa using counted, by omega, by omega, by omega,
            fun insertion full => room ⟨insertion, BitVec.eq_of_toNat_eq full⟩⟩

/-- A frame that is the head or the tail is queued already. -/
theorem headerCheck_requeued (sound : headerSound n frame head tail count) (insertion : frame ≠ 0)
    (queued : frame = head.toNat ∨ frame = tail.toNat) : headerCheck n frame head tail count = some frame := by
  obtain ⟨agreement, counted, headRange, tailRange, countRange, room⟩ := sound
  unfold headerCheck
  rw [if_neg (by simpa using agreement), if_neg (by simpa using counted), if_neg (by omega),
    if_neg (fun full => room insertion (congrArg BitVec.toNat full.2)), if_pos ⟨insertion, queued⟩]

/-- A removal's link that is out of range, or does not agree with the header (R132). -/
theorem removalLinkOk_eq_false {link : Word} (bad : n.toNat < link.toNat ∨ (link = 0 ∧ (tail ≠ head ∨ count ≠ 1)) ∨
    (link ≠ 0 ∧ (tail = head ∨ link = head ∨ count.toNat < 2))) : removalLinkOk n head tail count link = false := by
  refine Bool.eq_false_iff.2 fun ok => ?_
  obtain ⟨range, ⟨last, only, one⟩ | ⟨more, differs, new, two⟩⟩ := (removalLinkOk_iff ..).1 ok
  · rcases bad with outside | ⟨-, other | other⟩ | ⟨nonzero, -⟩
    · omega
    · exact other only
    · exact other one
    · exact nonzero last
  · rcases bad with outside | ⟨zero, -⟩ | ⟨-, same | same | short⟩
    · omega
    · exact more zero
    · exact differs same
    · exact new same
    · omega

end

/-! ### Reads that release (R132 to R134) -/

section
variable {head tail count link : Word}

theorem headerOutcome_damaged {k : Nat} (op : s.queues.op q = some o) (awaiting : s.awaiting Phase.header acc = some q)
    (fails : headerCheck s.engine.config.frameCount o.frame head tail count = some k) :
    s.headerOutcome acc head tail count = s.releaseLock q (some (damaged q k)) := by
  rw [headerOutcome_eq op awaiting]
  unfold State.headerArrives
  rw [fails]
  rfl

theorem queueReadFails_header (awaiting : s.awaiting Phase.header acc = some q) :
    s.queueReadFails acc = s.releaseLock q (some { code := .hostReadFault, detail := queueDetail (some q) 0 }) := by
  simp only [State.queueReadFails, awaiting]

theorem queueReadFails_ignored (header : s.awaiting Phase.header acc = none) (link : s.awaiting Phase.link acc = none) :
    s.queueReadFails acc = s := by
  simp only [State.queueReadFails, header, link]

variable (op : s.queues.op q = some o) (awaiting : s.awaiting Phase.link acc = some q)
  (phase : o.phase = .readingLink acc head tail count)
include op awaiting phase

/-- An insertion's link that is not 0: the tail frame is not the last one. -/
theorem linkOutcome_damagedTail (insertion : o.frame ≠ 0) (more : link ≠ 0) :
    s.linkOutcome acc link = s.releaseLock q (some (damaged q tail.toNat)) := by
  rw [linkOutcome_eq op awaiting phase, State.linkArrives, if_neg insertion, if_neg more]
  rfl

theorem linkOutcome_damagedHead (removal : o.frame = 0)
    (bad : removalLinkOk s.engine.config.frameCount head tail count link = false) :
    s.linkOutcome acc link = s.releaseLock q (some (damaged q head.toNat)) := by
  rw [linkOutcome_eq op awaiting phase, State.linkArrives, if_pos removal, if_neg (by simp [bad])]
  rfl

theorem queueReadFails_link (header : s.awaiting Phase.header acc = none) :
    s.queueReadFails acc = s.releaseLock q (some
      { code := .hostReadFault, detail := queueDetail (some q) (if o.frame = 0 then head.toNat else tail.toNat) }) := by
  obtain ⟨p, attempt, timer, stall, stalled, frame⟩ := o
  subst phase
  simp only [State.queueReadFails, header, awaiting, op, apply_ite BitVec.toNat]

end

/-! ### The frame read (R143, R144) -/

theorem frameReadFails_raises {i : Fin 40} {x : Slot} (taken : s.takenBy acc = some i) (slot : s.slot i = some x) :
    s.frameReadFails acc = s.raise { code := .hostReadFault, detail := queueDetail none x.index } := by
  simp only [State.frameReadFails, taken, slot]

theorem frameReadFails_ignored (none : s.takenBy acc = none) : s.frameReadFails acc = s := by
  simp only [State.frameReadFails, none]

/-- A new frame is TAKEN in the lowest free slot, and its 128 bytes are read (R138, R143, R144). -/
theorem takerFrame_takes {k : Nat} {i : Fin 40} (new : s.inCustody k = false) (free : s.lowestFree = some i) :
    s.takerFrame k = { s with
      intake := { s.intake with
        taker := .dispatching,
        custody := s.intake.custody.set i (some
          { index := k, spare := false, state := .taken, record := none, readyNumber := 0,
            readAcc := some s.link.nextAcc }) },
      link := { nextAcc := s.link.nextAcc + 1,
                issued := s.link.issued ++ [.read s.link.nextAcc (s.frameAddr k) 128] } } := by
  simp only [State.takerFrame, new, State.place, free, Bool.false_eq_true, if_false]
  rfl

end Sys2Proof.Machine

open Sys2Proof Sys2Proof.Machine

/-- Settles O31: by the value found, and by the fault that was to follow the release. -/
theorem releaseFreesLock : Obligations.ReleaseFreesLock := by
  intro s acc q
  refine ⟨fun f => releaseLock_eq s q f, fun live => ⟨fun lock => ?_, fun f lock active => ?_,
    fun f found lock active other => ?_⟩⟩
  · exact intakeEvent_wakes (f := (·.releaseOutcome acc (some 2))) rfl live (releaseOutcome_freed lock)
  · exact intakeEvent_faults (·.releaseOutcome acc (some 2)) rfl live (releaseOutcome_freed lock) active
  · exact intakeEvent_faults (·.releaseOutcome acc found) rfl live (releaseOutcome_fails lock other) active

/-- Settles O27: by the read that was awaited, and by the first of its checks that fails. -/
theorem damagedOrFailedReadsRelease : Obligations.DamagedOrFailedReadsRelease := by
  intro s acc q o head tail count live n sound read releases
  have released : ∀ {c : Instr} {f : State → State} {code : FaultCode} {k : Nat},
      exec c s = .next (s.intakeEvent f) → f s = s.releaseLock q (some { code, detail := queueDetail (some q) k }) →
      releases c code k := fun runs effect => intakeEvent_wakes runs live effect
  refine ⟨fun awaiting op => ⟨fun unsound => ?_, fun sound insertion queued => ?_⟩, fun awaiting => ?_,
    fun awaiting op phase => ⟨fun link insertion more => ?_, fun link removal bad => ?_, fun header => ?_⟩,
    fun header link => ?_, fun i x taken slot active => ?_, fun none => ?_⟩
  · exact released (f := (·.headerOutcome acc head tail count)) rfl
      (headerOutcome_damaged op awaiting (headerCheck_unsound unsound))
  · exact released (f := (·.headerOutcome acc head tail count)) rfl
      (headerOutcome_damaged op awaiting (headerCheck_requeued sound insertion queued))
  · exact released (f := (·.queueReadFails acc)) rfl (queueReadFails_header awaiting)
  · rw [show read = tail.toNat from if_neg insertion]
    exact released (f := (·.linkOutcome acc link)) rfl (linkOutcome_damagedTail op awaiting phase insertion more)
  · rw [show read = head.toNat from if_pos removal]
    exact released (f := (·.linkOutcome acc link)) rfl
      (linkOutcome_damagedHead op awaiting phase removal (removalLinkOk_eq_false bad))
  · exact released (f := (·.queueReadFails acc)) rfl (queueReadFails_link op awaiting phase header)
  · exact intakeEvent_wakes (f := (·.queueReadFails acc)) rfl live (queueReadFails_ignored header link)
  · exact intakeEvent_faults (·.frameReadFails acc) rfl live (frameReadFails_raises taken slot) active
  · exact intakeEvent_wakes (f := (·.frameReadFails acc)) rfl live (frameReadFails_ignored none)

/-- Settles O28: the removal's writes and its release, then the frame that the taker is told of. -/
theorem removalTakesFrame : Obligations.RemovalTakesFrame := by
  intro s acc o head tail count link i live awaiting op phase removal new free range agrees
  have effect := (linkOutcome_removes (q := .request) op awaiting phase removal range agrees).trans
    (takerFrame_takes (s := s.removed .request o link count) new free)
  obtain ⟨t, run, wakes⟩ := intakeEvent_wakes (c := .linkReadOutcome acc link) (f := (·.linkOutcome acc link)) rfl live effect
  refine ⟨t, _, run, wakes, ?_⟩
  simp only [State.removed, List.append_assoc, List.cons_append, List.nil_append]
  rfl

end

section
/-! A PROMPT for the request queue (R140 to R142, R168), and the look of a taker that is BLOCKED (R124, R141). -/

namespace Sys2Proof.Machine

open Sys2Proof

variable {s : State}

/-! ### The end of an event with the taker BLOCKED (R124, R141) -/

theorem post1_rests (poster : s.posterRests = true) : s.post1 = s := by
  simp only [State.posterRests, Bool.or_eq_true, Option.isNone_iff_eq_none] at poster
  refine ite_eq_right_iff.2 fun ⟨_, idle⟩ => ?_
  rw [poster.resolve_left (by simp [idle])]

section
variable (blocked : s.intake.taker = .blocked) (poster : s.posterRests = true) (notice : s.noticeAble = false)
include blocked poster notice

/-- With nothing to post and no notice to bring, only a taker that is ready begins a removal. -/
theorem begun_blocked (before : State) :
    (s.takerAfter.post1).beginRemovals before = if s.takerReady = true then s.takerBegin else s := by
  have after : s.takerAfter = s := if_neg fun ⟨busy, _⟩ => by simp [blocked] at busy
  have quiet : s.noticeReady before = false := by simp [State.noticeReady, notice]
  rw [after, post1_rests poster]
  rcases beginRemovals_cases s before with ⟨rests, -, same⟩ | ⟨ready, -, begins⟩ | ⟨-, news, -⟩ | ⟨-, news, -⟩
  · rw [same, rests, if_neg Bool.false_ne_true]
  · rw [begins, if_pos ready]
  · cases quiet.symm.trans news
  · cases quiet.symm.trans news

variable (running : s.engine.state = .running) (none : s.deferredQueues = [])
include running none

theorem settleIntake_blocked (before : State) (unready : s.takerReady = false) : s.settleIntake before = s := by
  have silent : s.issueClaims = s := by
    unfold State.issueClaims
    rw [none]
    exact ite_self s
  unfold State.settleIntake
  rw [if_pos (by simp [State.active, running]), begun_blocked blocked poster notice, unready, if_neg Bool.false_ne_true, silent]
  exact if_neg (by simp [State.quiesced, running])

/-- The claim of the look goes out in the event when the lock is free (R124). -/
theorem settleIntake_looks (before : State) (ready : s.takerReady = true) (may : s.mayClaim = true) :
    s.settleIntake before = { s with
      intake := { s.intake with taker := .looking, promptSeen := false },
      queues := s.queues.setOp .request (some (.fresh (.claiming s.link.nextAcc) 0)),
      link := { nextAcc := s.link.nextAcc + 1,
                issued := s.link.issued ++ [.compareSwap s.link.nextAcc (s.headerAddr .request) 0 2] } } := by
  have asked : s.takerBegin.queues = s.queues.setOp .request (some (.fresh .deferred 0)) := by rw [takerBegin_eq]
  have claims : s.takerBegin.issueClaims = s.takerBegin.claim .request := by
    unfold State.issueClaims
    rw [if_pos (mayClaim_of_setOp asked rfl may), deferredQueues_of_setOp asked rfl none]
    rfl
  unfold State.settleIntake
  rw [if_pos (by simp [State.active, running]), begun_blocked blocked poster notice, if_pos ready, claims,
    claim_eq _ _ (.fresh .deferred 0) (by rw [asked]; rfl), takerBegin_eq]
  exact if_neg (by simp [State.quiesced, running])

end

/-! ### The prompt (R142, R168) -/

theorem exec_promptRequest (answers : s.windowAnswers = true) :
    exec .promptRequest s = .next (s.takerPrompt.settleIntake s) :=
  congrArg Host.Outcome.next (if_pos ⟨answers, rfl⟩)

theorem exec_promptRequest_wakes {u : State} (answers : s.windowAnswers = true) (effect : s.takerPrompt = u) :
    ∃ t, exec .promptRequest s = .next t ∧ Wakes u t :=
  ⟨_, exec_promptRequest answers, effect ▸ .settleIntake _ _⟩

theorem takerPrompt_lost (lost : s.engine.state ≠ .running ∨ s.intake.taker = .idle) : s.takerPrompt = s := by
  refine ite_eq_right_iff.2 fun running => ?_
  rw [lost.resolve_left (not_not.2 running)]

section
variable (running : s.engine.state = .running)
include running

theorem takerPrompt_seen (busy : s.intake.taker = .looking ∨ s.intake.taker = .dispatching ∨ s.intake.taker = .blocked) :
    s.takerPrompt = { s with intake := { s.intake with promptSeen := true } } := by
  unfold State.takerPrompt
  rw [if_pos running]
  split
  · rename_i idle
    simp [idle] at busy
  · rename_i asleep
    simp [asleep] at busy
  · rfl

/-- The state with the taker's look to make (R141). -/
def State.withLook (s : State) : State := { s with intake := { s.intake with taker := .blocked } }

theorem takerPrompt_wakes (asleep : s.intake.taker = .asleep) : s.takerPrompt = s.withLook := by
  unfold State.takerPrompt State.takerLook
  rw [if_pos running, asleep]
  simp only [if_pos running]
  rfl

end

/-! ### A look to make (R140, R141) -/

section
variable (asleep : s.intake.taker = .asleep)
include asleep

/-- Neither an ASLEEP nor a BLOCKED taker has a slot kept for its frame (R140). -/
theorem available_withLook : s.withLook.available = s.available := by
  have reserved : s.withLook.reserved = s.reserved := by
    unfold State.reserved
    rw [asleep]
    rfl
  exact congrArg (s.freeCount - ·) reserved

theorem noticeAble_withLook : s.withLook.noticeAble = s.noticeAble := by
  unfold State.noticeAble
  rw [available_withLook asleep]
  rfl

theorem takerReady_withLook (running : s.engine.state = .running) : s.withLook.takerReady = true ↔
    s.anyTaken = false ∧ s.intake.pendingList.length < 16 ∧ 5 ≤ s.available := by
  have state : s.withLook.engine.state = .running := running
  unfold State.takerReady
  rw [available_withLook asleep, state]
  show (true && !s.anyTaken && decide (s.intake.pendingList.length < 16) && decide (5 ≤ s.available)) = true ↔ _
  simp [and_assoc]

end

end Sys2Proof.Machine

open Sys2Proof Sys2Proof.Machine

/-- Settles O21: by the taker's state; an ASLEEP taker has its look to make, and begins it when its frame has a place. -/
theorem promptWakesTaker : Obligations.PromptWakesTaker := by
  intro s answers
  refine ⟨fun lost => exec_promptRequest_wakes answers (takerPrompt_lost lost), fun running busy => ?_,
    fun running asleep untaken short room rests may => ?_, fun running asleep rests full => ?_⟩
  · obtain ⟨t, run, wakes⟩ := exec_promptRequest_wakes answers (takerPrompt_seen running busy)
    refine ⟨t, run, wakes, fun may => ?_⟩
    rcases wakes.taker with ⟨may', -⟩ | ⟨same | ⟨quiescing, -⟩, seen⟩
    · cases may.symm.trans may'
    · exact ⟨same, seen⟩
    · cases running.symm.trans quiescing
  · obtain ⟨-, poster, notice, none⟩ := intakeRests_iff.1 rests
    rw [exec_promptRequest answers, takerPrompt_wakes running asleep,
      settleIntake_looks (s := s.withLook) rfl poster ((noticeAble_withLook asleep).trans notice) running none s
        ((takerReady_withLook asleep running).2 ⟨untaken, short, room⟩) may]
    rfl
  · obtain ⟨-, poster, notice, none⟩ := intakeRests_iff.1 rests
    have unready : s.withLook.takerReady = false := Bool.eq_false_iff.2 fun ready => by
      obtain ⟨untaken, short, room⟩ := (takerReady_withLook asleep running).1 ready
      rcases full with taken | long | few
      · cases untaken.symm.trans taken
      · omega
      · omega
    rw [exec_promptRequest answers, takerPrompt_wakes running asleep,
      settleIntake_blocked (s := s.withLook) rfl poster ((noticeAble_withLook asleep).trans notice) running none s unready]
    rfl

end

section
/-! The pending list: a good request of a context kind with both request contexts at work, or with the engine QUIESCING
(R146 to R148). -/

namespace Sys2Proof.Machine

open Sys2Proof

variable {s : State} {i : Fin 40} {b : Body} {y : Slot}

/-! ### Requests that pass their checks -/

/-- A RUN that passes its checks is routed (R37, R146). -/
theorem doRun_routes (good : (runFieldsOk b && s.runWindowsOk b) = true) : s.doRun i b = s.routeOrQuiesce i := by
  obtain ⟨fields, windows⟩ := Bool.and_eq_true_iff.1 good
  simp [State.doRun, fields, windows]

/-- An EXCHANGE that passes its checks is routed (R40, R146). -/
theorem doExchange_routes (good : (exchangeStepOk b && zeroAt b 0x10 80) = true) :
    s.doExchange i b = s.routeOrQuiesce i := by
  obtain ⟨step, rest⟩ := Bool.and_eq_true_iff.1 good
  simp [State.doExchange, exchangeRefusal, step, rest]

/-- A SURVEY that passes its checks is routed (R74, R146). -/
theorem doSurvey_routes (good : (surveyFieldsOk b && s.inWindow true (u64 b 0x00) (u32 b 0x08).toNat &&
    decide (320 ≤ (u32 b 0x08).toNat)) = true) : s.doSurvey i b = s.routeOrQuiesce i := by
  obtain ⟨⟨fields, window⟩, long⟩ : (surveyFieldsOk b = true ∧ _) ∧ 320 ≤ (u32 b 0x08).toNat := by
    simpa only [Bool.and_eq_true, decide_eq_true_eq] using good
  simp [State.doSurvey, fields, window, Nat.not_lt.2 long]

/-! ### Where a routed request goes when it starts in no context -/

/-- While the engine is QUIESCING a routed request completes QUIESCED (R147). -/
theorem routeOrQuiesce_quiesced (quiescing : s.engine.state = .quiescing) :
    s.routeOrQuiesce i = s.finish i { result := 17 } := by
  have quiet : s.quiescing = true := by simp [State.quiescing, quiescing]
  simp [State.routeOrQuiesce, quiet, State.refuse, Result.code]

/-- With both request contexts at work a routed request waits at the tail of the pending list, its slot PENDING (R146,
R148). -/
theorem routeOrQuiesce_pends (working : s.engine.state ≠ .quiescing) (busyA : (s.ctx ctxA).state ≠ .idle)
    (busyB : (s.ctx ctxB).state ≠ .idle) (slot : s.slot i = some y) :
    s.routeOrQuiesce i = (s.setSlot i (some { y with state := .pending })).setIntake fun x =>
      { x with pendingList := x.pendingList ++ [i] } := by
  have quiet : s.quiescing = false := by simpa [State.quiescing] using working
  simp [State.routeOrQuiesce, quiet, State.routeContext, busyA, busyB, setSlotState_eq slot]

/-- With both request contexts at work nothing pending can start: a calm state stays calm whatever becomes of Intake
(R148). -/
theorem calm_of_intake {n : Intake} (calm : s.calm = true) (busyA : (s.ctx ctxA).state ≠ .idle)
    (busyB : (s.ctx ctxB).state ≠ .idle) : { s with intake := n }.calm = true := by
  obtain ⟨grant, drain, due, released, -⟩ := (calm_iff s).1 calm
  exact (calm_iff _).2 ⟨grant, drain, due, released, .inr ⟨busyA, busyB⟩⟩

end Sys2Proof.Machine

section
open Sys2Proof Sys2Proof.Machine

/-- Settles O35: each of the three kinds, its checks passed, is routed; the route is then the pending list or QUIESCED. -/
theorem requestsWaitOnPendingList : Obligations.RequestsWaitOnPendingList := by
  intro s acc tag b i x live taken slot calm c kind ok member good
  have kept := State.slot_setSlot_same s i (some (x.kept kind tag b))
  have routed : IsRequest c acc { kind, tag, body := b } ∧
      (s.setSlot i (some (x.kept kind tag b))).doKind i { kind, tag, body := b } =
        (s.setSlot i (some (x.kept kind tag b))).routeOrQuiesce i := by
    simp only [List.mem_cons, Prod.mk.injEq, List.not_mem_nil, or_false] at member
    rcases member with ⟨rfl, rfl, rfl⟩ | ⟨rfl, rfl, rfl⟩ | ⟨rfl, rfl, rfl⟩
    · exact ⟨fun _ => rfl, doRun_routes good⟩
    · exact ⟨fun _ => rfl, doExchange_routes good⟩
    · exact ⟨fun _ => rfl, doSurvey_routes good⟩
  obtain ⟨request, routes⟩ := routed
  refine ⟨fun working busyA busyB => ?_, fun quiescing => ?_⟩
  · have pends := routes.trans (routeOrQuiesce_pends working busyA busyB kept)
    rw [setSlot_setSlot_same] at pends
    obtain ⟨t, run, wakes⟩ := dispatch_wakes request live taken slot pends
      fun _ => calm_of_intake calm busyA busyB
    exact ⟨t, _, run, wakes, rfl⟩
  · exact dispatch_finishes request live taken slot (fun _ => calm) (routes.trans (routeOrQuiesce_quiesced quiescing))

end
end

section
/-! Writes to the register window by their form (R164, R166), and what ENABLE, ANCHOR and CAUSE make of the engine (R157, R158,
R166, R169, R170). -/

namespace Sys2Proof.Machine

open Sys2Proof

variable {s : State}

/-! ### Forms (R164, R166) -/

theorem registerWrite_unanswered (dead : s.windowAnswers = false) (offset bytes : Nat) (v : Word) :
    s.registerWrite offset bytes v = s :=
  if_neg fun ⟨answers, _⟩ => by simp [dead] at answers

/-- Only four bytes at one of the five writable registers take effect. -/
theorem registerWrite_elsewhere {offset bytes : Nat} (v : Word)
    (other : bytes ≠ 4 ∨ offset ∉ [0x00, 0x04, 0x08, 0x10, 0x14]) : s.registerWrite offset bytes v = s := by
  rcases other with short | off
  · exact if_neg fun ⟨_, four⟩ => short four
  · simp only [List.mem_cons, List.not_mem_nil, or_false, not_or] at off
    obtain ⟨low, high, command, prompt, cause⟩ := off
    simp only [State.registerWrite, low, high, command, prompt, cause, if_false, ite_self]

/-- A form that the window ignores is short, or lies at ENGINE STATUS or behind CAUSE. -/
theorem ignoredWrite_elsewhere {offset bytes : Nat} (ignored : ignoredWrite offset bytes = true) :
    bytes ≠ 4 ∨ offset ∉ [0x00, 0x04, 0x08, 0x10, 0x14] := by
  simp only [ignoredWrite, Bool.and_eq_true, Bool.or_eq_true, decide_eq_true_eq, beq_iff_eq] at ignored
  simp only [List.mem_cons, List.not_mem_nil, or_false]
  omega

/-! ### ANCHOR (R166) -/

theorem exec_anchorWrite (answers : s.windowAnswers = true) (high : Bool) (v : Word) :
    exec (.anchorWrite high v) s = .next (s.writeAnchor high v) := by
  cases high <;> exact congrArg Host.Outcome.next (if_pos ⟨answers, rfl⟩)

theorem writeAnchor_off (off : s.engine.state ≠ .stopped) (high : Bool) (v : Word) : s.writeAnchor high v = s := if_neg off

/-! ### CAUSE (R169, R170) -/

theorem registerWrite_cause (answers : s.windowAnswers = true) (v : Word) : s.registerWrite 0x14 4 v = s.writeCause v :=
  if_pos ⟨answers, rfl⟩

theorem exec_causeWrite (answers : s.windowAnswers = true) (v : Word) : exec (.causeWrite v) s = .next (s.writeCause v) :=
  congrArg Host.Outcome.next (registerWrite_cause answers v)

/-- The causes that a write to CAUSE leaves: those not written 1. -/
def Engine.causesLeft (e : Engine) (v : Word) : BitVec 4 := e.causes &&& ~~~(v.setWidth 4)

theorem getLsbD_causesLeft (e : Engine) (v : Word) (k : Nat) (near : k < 4) :
    (e.causesLeft v).getLsbD k = (e.causes.getLsbD k && !v.getLsbD k) := by
  simp [Engine.causesLeft, near]

/-- A write to CAUSE changes the causes, and sends the message when some are left and messages are enabled. -/
theorem writeCause_eq (s : State) (v : Word) : s.writeCause v = { s with
    engine := { s.engine with causes := s.engine.causesLeft v },
    link := { s.link with issued := s.link.issued ++
      if s.engine.causesLeft v ≠ 0 ∧ s.engine.messageEnable = true then [.message] else [] } } := by
  by_cases none : s.engine.causesLeft v = 0
  · rw [if_neg fun h => h.1 none, List.append_nil]
    exact if_pos none
  · refine (if_neg none).trans ?_
    by_cases enabled : s.engine.messageEnable = true
    · rw [if_pos ⟨none, enabled⟩]
      exact if_pos enabled
    · rw [if_neg fun h => enabled h.2, List.append_nil]
      exact if_neg enabled

/-! ### ENABLE (R157, R158) -/

theorem exec_enable (answers : s.windowAnswers = true) : exec .enable s = .next s.enable :=
  congrArg Host.Outcome.next (registerWrite_command answers 1)

theorem enable_off (off : s.engine.state ≠ .stopped) : s.enable = s := if_neg off

section
variable (stopped : s.engine.state = .stopped)
include stopped

/-- A bad anchor address faults in the event (R158). -/
theorem enable_faults (bad : s.anchorAddr = 0 ∨ s.anchorAddr.toNat % 64 ≠ 0) :
    s.enable = s.faulted .anchorBad (anchorDetail 1 0) := by
  have check : s.anchorAddr = 0 ∨ multipleOf s.anchorAddr 64 = false :=
    bad.imp_right fun off => Bool.eq_false_iff.2 (mt (multipleOf_iff _ _).1 off)
  exact ((if_pos stopped).trans (if_pos check)).trans (raise_eq _ _ rfl)

/-- A good one is read (R158). -/
theorem enable_reads (given : s.anchorAddr ≠ 0) (aligned : s.anchorAddr.toNat % 64 = 0) : s.enable = { s with
    engine := { s.engine with state := .starting, anchorRead := some s.link.nextAcc },
    link := { nextAcc := s.link.nextAcc + 1,
              issued := s.link.issued ++ [.readAnchor s.link.nextAcc s.anchorAddr] } } := by
  have check : ¬ (s.anchorAddr = 0 ∨ multipleOf s.anchorAddr 64 = false) := fun bad =>
    bad.elim given (by simp [(multipleOf_iff _ _).2 aligned])
  exact (if_pos stopped).trans (if_neg check)

end

end Sys2Proof.Machine

section
open Sys2Proof Sys2Proof.Machine

/-- Settles O14: the write reaches `State.writeAnchor`, which looks at the engine's state first. -/
theorem anchorTakesWritesInStopped : Obligations.AnchorTakesWritesInStopped := by
  refine fun s v answers => ⟨fun stopped => ?_, fun off high => ?_⟩
  · simp only [exec_anchorWrite answers, State.writeAnchor, if_pos stopped]
    exact ⟨rfl, rfl⟩
  · rw [exec_anchorWrite answers, writeAnchor_off off]

/-- Settles O15: the next state as `writeCause_eq` writes it out. -/
theorem causeWriteClearsCauses : Obligations.CauseWriteClearsCauses := by
  refine fun s v answers => ⟨_, exec_causeWrite answers v, ?_⟩
  rw [writeCause_eq]
  exact ⟨rfl, rfl, getLsbD_causesLeft s.engine v, rfl⟩

/-- Settles O16: both are forms of a register write that `State.registerWrite` passes by. -/
theorem windowIgnoresOtherWrites : Obligations.WindowIgnoresOtherWrites := by
  refine ⟨fun s offset bytes v ignored =>
    congrArg Host.Outcome.next (registerWrite_elsewhere v (ignoredWrite_elsewhere ignored)), fun s dead => ?_⟩
  have same : ∀ offset bytes v, exec (.registerWrite offset bytes v) s = .next s := fun offset bytes v =>
    congrArg Host.Outcome.next (registerWrite_unanswered dead offset bytes v)
  exact ⟨same .., same .., same .., same .., same .., same _ _, fun _ => same _ _, same⟩

/-- Settles O17: by the engine's state, then by the anchor address. -/
theorem enableReadsAnchor : Obligations.EnableReadsAnchor := by
  intro s answers
  rw [exec_enable answers]
  exact ⟨fun off => congrArg _ (enable_off off), fun stopped =>
    ⟨fun bad => congrArg _ (enable_faults stopped bad),
      fun given aligned => congrArg _ (enable_reads stopped given aligned)⟩⟩

end
end

section
/-! The hard resets and the pins that end them (R164). -/

namespace Sys2Proof.Machine

open Sys2Proof

theorem windowAnswers_iff (s : State) :
    s.windowAnswers = true ↔ s.pins.resetAsserted = false ∧ s.pins.linkTrained = true := by
  simp [State.windowAnswers]

/-- Power-on reset: every field as after reset, but the queue, the issue log, the free choices and the pins (R164; log
entries 4, 5). -/
theorem powerOn_eq (s : State) : s.powerOn = { State.reset with
    pending := s.pending, link := s.link, choices := s.choices, pins := { s.pins with resetAsserted := true } } := rfl

/-- Host-link reset differs from it in the pin alone (R164). -/
theorem linkReset_eq (s : State) : s.linkReset = { State.reset with
    pending := s.pending, link := s.link, choices := s.choices, pins := { s.pins with linkTrained := false } } := rfl

end Sys2Proof.Machine

section
open Sys2Proof Sys2Proof.Machine

/-- Settles O12: the next states of the two resets as `powerOn_eq` and `linkReset_eq` write them out; each end of a reset is
its pin alone. -/
theorem hardResetsClearPart : Obligations.HardResetsClearPart := fun s =>
  ⟨congrArg Host.Outcome.next (powerOn_eq s), congrArg Host.Outcome.next (linkReset_eq s), rfl, rfl, windowAnswers_iff⟩

end
end

section
/-! FAULTED: what each command makes of a faulted part (R157, R165, R169). -/

namespace Sys2Proof.Machine

open Sys2Proof

variable {s t : State}

section
variable (faulted : s.engine.state = .faulted)
include faulted

theorem live_of_faulted : s.live = false := by simp [State.live, faulted]

theorem active_of_faulted : s.active = false := by simp [State.active, faulted]

theorem event_faulted (f : State → State) : s.event f = s := by simp [State.event, live_of_faulted faulted]

theorem intakeEvent_faulted (f : State → State) : s.intakeEvent f = s := by
  simp [State.intakeEvent, live_of_faulted faulted]

/-- Prompts are lost outside RUNNING, and nothing follows them (R119, R142). -/
theorem writePrompt_faulted (v : Word) : s.writePrompt v = s := by
  have off : s.engine.state ≠ .running := by simp [faulted]
  simp only [State.writePrompt, takerPrompt_lost (.inl off), noticePrompt_off off,
    settleIntake_inactive s s (active_of_faulted faulted), ite_self]

/-- ENABLE and QUIESCE are ignored, so that of the commands only SOFT RESET acts (R157). -/
theorem writeCommand_faulted {v : Word} (other : v ≠ 3) : s.writeCommand v = s := by
  have quiesce : s.quiesce = s := if_neg (by simp [faulted])
  simp only [State.writeCommand, enable_off (s := s) (by simp [faulted]), quiesce, if_neg other, ite_self]

/-- Of the writes only one to CAUSE and SOFT RESET act (R157, R166, R168, R169). -/
theorem registerWrite_faulted (offset bytes : Nat) (v : Word) :
    s.registerWrite offset bytes v = s ∨ (offset = 0x08 ∧ bytes = 4 ∧ v = 3) ∨
      (offset = 0x14 ∧ bytes = 4) ∧ s.registerWrite offset bytes v = s.writeCause v := by
  by_cases answers : s.windowAnswers = true
  swap
  · exact .inl (registerWrite_unanswered (Bool.eq_false_iff.2 answers) ..)
  by_cases form : bytes ≠ 4 ∨ offset ∉ [0x00, 0x04, 0x08, 0x10, 0x14]
  · exact .inl (registerWrite_elsewhere v form)
  have off : s.engine.state ≠ .stopped := by simp [faulted]
  rw [not_or, not_not, not_not] at form
  simp only [List.mem_cons, List.not_mem_nil, or_false] at form
  obtain ⟨rfl, rfl | rfl | rfl | rfl | rfl⟩ := form
  · exact .inl ((if_pos ⟨answers, rfl⟩).trans (writeAnchor_off off false v))
  · exact .inl ((if_pos ⟨answers, rfl⟩).trans (writeAnchor_off off true v))
  · by_cases reset : v = 3
    · exact .inr (.inl ⟨rfl, rfl, reset⟩)
    · exact .inl ((registerWrite_command answers v).trans (writeCommand_faulted faulted reset))
  · exact .inl ((if_pos ⟨answers, rfl⟩).trans (writePrompt_faulted faulted v))
  · exact .inr (.inr ⟨⟨rfl, rfl⟩, registerWrite_cause answers v⟩)

/-- Any other write is passed by. -/
theorem registerWrite_passed {offset bytes : Nat} {v : Word} (cause : offset ≠ 0x14) (reset : offset ≠ 0x08 ∨ v ≠ 3) :
    s.registerWrite offset bytes v = s := by
  rcases registerWrite_faulted faulted offset bytes v with same | ⟨command, -, three⟩ | ⟨⟨clears, -⟩, -⟩
  · exact same
  · exact (reset.elim (· command) (· three)).elim
  · exact absurd clears cause

/-- What a command other than a reset makes of a faulted part: nothing, but for the pins that the end of a reset moves and
for what a write to CAUSE does. -/
theorem exec_faulted {c : Instr} (run : exec c s = .next t) :
    (c = .powerOnReset ∨ c = .hostLinkReset ∨ c = .softReset ∨ c = .registerWrite 0x08 4 3) ∨
      (∃ pins, t = { s with pins }) ∨ ∃ v, (c = .causeWrite v ∨ c = .registerWrite 0x14 4 v) ∧ t = s.writeCause v := by
  have same : ∀ {u : State}, u = s → ∃ pins, u = { s with pins } := fun e => ⟨s.pins, e⟩
  have dead : ∀ u : State, (if s.live then u else s) = s := fun u => by simp [live_of_faulted faulted]
  cases c <;> cases run
  case powerOnReset | hostLinkReset | softReset => simp
  case resetInputRelease | linkTrained => exact .inr (.inl ⟨_, rfl⟩)
  case enable | quiesce => exact .inr (.inl (same (registerWrite_passed faulted (by decide) (.inr (by decide)))))
  case promptRequest | promptSpare => exact .inr (.inl (same (registerWrite_passed faulted (by decide) (.inl (by decide)))))
  case anchorWrite high v =>
    exact .inr (.inl (same (by cases high <;> exact registerWrite_passed faulted (by decide) (.inl (by decide)))))
  case causeWrite v =>
    rcases registerWrite_faulted faulted 0x14 4 v with passed | ⟨⟨⟩, -⟩ | ⟨-, clears⟩
    · exact .inr (.inl (same passed))
    · exact .inr (.inr ⟨v, .inl rfl, clears⟩)
  case registerWrite offset bytes v =>
    rcases registerWrite_faulted faulted offset bytes v with passed | ⟨rfl, rfl, rfl⟩ | ⟨⟨rfl, rfl⟩, clears⟩
    · exact .inr (.inl (same passed))
    · simp
    · exact .inr (.inr ⟨v, .inr rfl, clears⟩)
  case anchorReadOutcome | badKind | loadProgram | run | exchange | startCadence | stopCadence | release | survey |
      reconfigure | setAttention | loopRestart | queryStations | queryLoop | queryCadences | queryHolds | cancel |
      loadSourceArrival | loadSourceReadFail =>
    exact .inr (.inl (same (dead _)))
  case lockClaimOutcome | lockBackoffExpiry | contentionPauseExpiry | stallTimerExpiry | headerReadOutcome | linkReadOutcome |
      queueReadFail | lockReleaseOutcome | frameReadFail | attentionArrival =>
    exact .inr (.inl (same (intakeEvent_faulted faulted _)))
  all_goals exact .inr (.inl (same (event_faulted faulted _)))

end

end Sys2Proof.Machine

section
open Sys2Proof Sys2Proof.Machine

/-- Settles O9: of the commands that are no reset (`exec_faulted`) only a write to CAUSE changes a field that is told. -/
theorem faultedPartIsFrozen : Obligations.FaultedPartIsFrozen := by
  intro c s t faulted run
  rcases exec_faulted faulted run with reset | ⟨pins, rfl⟩ | ⟨v, write, rfl⟩
  · tauto
  · exact .inr (.inr (.inr (.inr ⟨rfl, rfl, rfl, rfl, rfl, rfl, rfl, rfl, rfl, rfl, rfl, .inl rfl⟩)))
  · rw [writeCause_eq]
    refine .inr (.inr (.inr (.inr ⟨rfl, rfl, rfl, rfl, rfl, rfl, rfl, rfl, rfl, rfl, rfl, ?_⟩)))
    dsimp only
    split
    · exact .inr ⟨⟨v, write⟩, rfl⟩
    · exact .inl (by rw [List.append_nil])

end
end

section
/-! The anchor block's checks on the bytes read, the first that fails, and the faults of STARTING (R159, section 11.2). -/

namespace Sys2Proof.Machine

open Sys2Proof

variable {a : AnchorImage}

/-! ### The checks -/

/-- Check 3. -/
theorem arenaOk_iff (a : AnchorImage) : a.arenaOk = true ↔
    (u64 a.low 0x00).toNat ≠ 0 ∧ (u64 a.low 0x00).toNat % 128 = 0 ∧ 2 ≤ (u32 a.low 0x08).toNat ∧
      (u32 a.low 0x08).toNat ≤ 65535 ∧ (u64 a.low 0x00).toNat + 128 * (u32 a.low 0x08).toNat ≤ 2 ^ 64 := by
  simp only [AnchorImage.arenaOk, Bool.and_eq_true, bne_iff_ne, decide_eq_true_eq, multipleOf_iff, ne_eq,
    ← BitVec.toNat_inj, and_assoc]
  rfl

/-- Check 4 of one entry. -/
theorem entryOk_iff (a : AnchorImage) (e : Nat) : a.entryOk e = true ↔
    u8 a.high (0x18 * e + 0x11) = 0 ∨ u8 a.high (0x18 * e + 0x11) = 1 ∧
      (u8 a.high (0x18 * e + 0x10) = 1 ∨ u8 a.high (0x18 * e + 0x10) = 2) ∧ u64 a.high (0x18 * e + 0x08) ≠ 0 ∧
      (u64 a.high (0x18 * e)).toNat + (u64 a.high (0x18 * e + 0x08)).toNat ≤ 2 ^ 64 := by
  unfold AnchorImage.entryOk entryOffset
  simp only [Bool.or_eq_true, Bool.and_eq_true, beq_iff_eq, bne_iff_ne, decide_eq_true_eq,
    ne_eq, ← BitVec.toNat_inj (y := (0 : BitVec 64)), and_assoc]
  rfl

/-- Check 5 of one field. -/
theorem fieldOk_iff (a : AnchorImage) {k : Nat} (low : 1 ≤ k) (high : k ≤ 5) : a.fieldOk k = true ↔
    if k = 1 then 20 ≤ a.field 0 ∧ a.field 0 ≤ 20000
    else if k = 2 then a.field 1 = 0 ∨ 1 ≤ a.field 1 ∧ a.field 1 ≤ 60000
    else if k = 3 then a.field 2 ≤ 1000
    else if k = 4 then a.field 3 ≤ 3
    else 100 ≤ a.field 4 ∧ a.field 4 ≤ 100000 := by
  obtain rfl | rfl | rfl | rfl | rfl : k = 1 ∨ k = 2 ∨ k = 3 ∨ k = 4 ∨ k = 5 := by omega
  all_goals simp [AnchorImage.fieldOk]

/-- Check 6. -/
theorem zerosOk_iff (a : AnchorImage) : a.zerosOk = true ↔
    u32 a.low 0x0C = 0 ∧ (∀ e, e < 8 → zeroAt a.high (0x18 * e + 0x12) 6 = true) ∧ zeroAt a.high 0xD4 12 = true := by
  simp only [AnchorImage.zerosOk, entryOffset, Bool.and_eq_true, beq_iff_eq, List.all_eq_true, List.mem_range, and_assoc]

/-! ### The first check that fails (log entry 20) -/

theorem failedCheck_arena (bad : ¬ a.arenaOk = true) : a.failedCheck = some (3, 0) := by
  simp [AnchorImage.failedCheck, bad]

theorem no_bad_entry (entries : ∀ e, e < 8 → a.entryOk e = true) : ((List.range 8).find? fun e => !a.entryOk e) = none :=
  List.find?_range_eq_none.2 fun e near => by simp [entries e near]

section
variable (arena : a.arenaOk = true)
include arena

theorem failedCheck_entry {e : Nat} (near : e < 8) (bad : ¬ a.entryOk e = true) (lower : ∀ j, j < e → a.entryOk j = true) :
    a.failedCheck = some (4, e) := by
  have first : ((List.range 8).find? fun e => !a.entryOk e) = some e :=
    List.find?_range_eq_some.2 ⟨by simpa using bad, List.mem_range.2 near, fun j below => by simp [lower j below]⟩
  simp [AnchorImage.failedCheck, arena, first]

variable (entries : ∀ e, e < 8 → a.entryOk e = true)
include entries

theorem failedCheck_field {k : Nat} (low : 1 ≤ k) (high : k ≤ 5) (bad : ¬ a.fieldOk k = true)
    (lower : ∀ j, 1 ≤ j → j < k → a.fieldOk j = true) : a.failedCheck = some (5, k) := by
  have first : ([1, 2, 3, 4, 5].find? fun k => !a.fieldOk k) = some k :=
    List.find?_range'_eq_some (s := 1) (n := 5).2
      ⟨by simpa using bad, List.mem_range'_1.2 ⟨low, by omega⟩, fun j above below => by simp [lower j above below]⟩
  simp [AnchorImage.failedCheck, arena, no_bad_entry entries, first]

theorem failedCheck_zeros (fields : ∀ k, 1 ≤ k → k ≤ 5 → a.fieldOk k = true) :
    a.failedCheck = if a.zerosOk then none else some (6, 0) := by
  have none : ([1, 2, 3, 4, 5].find? fun k => !a.fieldOk k) = none :=
    List.find?_range'_eq_none (s := 1) (n := 5).2 fun k low high => by simp [fields k low (by omega)]
  simp [AnchorImage.failedCheck, arena, no_bad_entry entries, none]

end

/-! ### The anchor read's outcome in STARTING (R159) -/

variable {s : State} {acc : Nat}

theorem exec_anchorReadOutcome (live : s.live = true) (image : Option AnchorImage) :
    exec (.anchorReadOutcome acc image) s = .next (s.anchorOutcome acc image) :=
  congrArg Host.Outcome.next (if_pos live)

/-- An outcome that nothing waits for changes nothing. -/
theorem exec_anchorReadOutcome_ignored {image : Option AnchorImage}
    (unawaited : ¬ (s.live = true ∧ s.engine.state = .starting ∧ s.engine.anchorRead = some acc)) :
    exec (.anchorReadOutcome acc image) s = .next s := by
  by_cases live : s.live = true
  · exact (exec_anchorReadOutcome live image).trans (congrArg _ (if_neg fun awaits => unawaited ⟨live, awaits⟩))
  · exact congrArg Host.Outcome.next (if_neg live)

section
variable (starting : s.engine.state = .starting) (read : s.engine.anchorRead = some acc)
include starting read

/-- A failed read is check 2. -/
theorem anchorOutcome_failed : s.anchorOutcome acc none = s.faulted .anchorBad (anchorDetail 2 0) :=
  (if_pos ⟨starting, read⟩).trans (raise_eq _ _ (by simp [starting]))

/-- A block with a check that fails faults with that check. -/
theorem anchorOutcome_bad {check further : Nat} (fails : a.failedCheck = some (check, further)) :
    s.anchorOutcome acc (some a) = s.faulted .anchorBad (anchorDetail check further) := by
  simp only [State.anchorOutcome, if_pos (And.intro starting read), fails]
  exact raise_eq _ _ (by simp [starting])

end

end Sys2Proof.Machine

section
open Sys2Proof Sys2Proof.Machine

/-- Settles O18: each check's test on the bytes (`arenaOk_iff` to `zerosOk_iff`), taken in the order of `failedCheck`. -/
theorem badAnchorFaults : Obligations.BadAnchorFaults := by
  refine fun s acc image => ⟨fun live starting read => ⟨?_, fun a check further fails => ?_⟩,
    exec_anchorReadOutcome_ignored, fun a => ?_⟩
  · rw [exec_anchorReadOutcome live, anchorOutcome_failed starting read]
  · rw [exec_anchorReadOutcome live, anchorOutcome_bad starting read fails]
  intro base frames arena entry value field zero
  have arenaIff : a.arenaOk = true ↔ arena := arenaOk_iff a
  have entryIff : ∀ e, a.entryOk e = true ↔ entry e := entryOk_iff a
  have fieldIff : ∀ k, 1 ≤ k → k ≤ 5 → (a.fieldOk k = true ↔ field k) := fun k low high => fieldOk_iff a low high
  have zeroIff : a.zerosOk = true ↔ zero := zerosOk_iff a
  refine ⟨fun bad => failedCheck_arena (mt arenaIff.1 bad), fun e good near bad lower => ?_,
    fun k good entries low high bad lower => ?_, fun good entries fields => ?_⟩
  · exact failedCheck_entry (arenaIff.2 good) near (mt (entryIff e).1 bad) fun j below => (entryIff j).2 (lower j below)
  · exact failedCheck_field (arenaIff.2 good) (fun e near => (entryIff e).2 (entries e near)) low high
      (mt (fieldIff k low high).1 bad) fun j above below => (fieldIff j above (by omega)).2 (lower j above below)
  · rw [failedCheck_zeros (arenaIff.2 good) (fun e near => (entryIff e).2 (entries e near))
      fun k low high => (fieldIff k low high).2 (fields k low high)]
    exact ⟨fun bad => if_neg (mt zeroIff.1 bad), fun good => if_pos (zeroIff.2 good)⟩

end
end

section
/-! QUIESCE (R161): what it stops one by one, the end that every pending entry, request context and cadence is brought to, and
STOPPED when nothing is left to wait for (R42, R45, R103, R149, R162). -/

namespace Sys2Proof.Machine

open Sys2Proof

variable {s t u : State}

/-! ### Contexts and cadences that a QUIESCE has dealt with -/

/-- A context that is IDLE, or whose cancel flag is set so that it will be (R42, R43). -/
def Context.Ends (c : Context) : Prop := c.state = .idle ∨ c.cancel.isSome = true

/-- A cadence that is IDLE, or STOPPING so that it will be (R103). -/
def Cadence.Ends (k : Cadence) : Prop := k.state = .idle ∨ k.state = .stopping

/-- What the operations of a QUIESCE keep: contexts and cadences that end go on ending. -/
structure EndsKept (s t : State) : Prop where
  contexts : ∀ i, (s.ctx i).Ends → (t.ctx i).Ends
  cadences : ∀ n, (s.cad n).Ends → (t.cad n).Ends

namespace EndsKept

theorem refl (s : State) : EndsKept s s := ⟨fun _ => id, fun _ => id⟩

theorem trans (first : EndsKept s t) (second : EndsKept t u) : EndsKept s u :=
  ⟨fun i => second.contexts i ∘ first.contexts i, fun n => second.cadences n ∘ first.cadences n⟩

theorem of_same (contexts : t.contexts = s.contexts) (cadences : t.cadences = s.cadences) : EndsKept s t :=
  ⟨fun i ends => by simpa only [State.ctx, contexts] using ends, fun n ends => by simpa only [State.cad, cadences] using ends⟩

theorem setCtx (s : State) (i : CtxId) {c : Context} (ends : (s.ctx i).Ends → c.Ends) : EndsKept s (s.setCtx i c) := by
  refine ⟨fun j kept => ?_, fun _ => id⟩
  by_cases same : i = j
  · subst same
    rw [State.ctx_setCtx_same]
    exact ends kept
  · rwa [State.ctx_setCtx_other _ _ _ _ same]

theorem setCad (s : State) (n : Fin 8) {k : Cadence} (ends : (s.cad n).Ends → k.Ends) : EndsKept s (s.setCad n k) := by
  refine ⟨fun _ => id, fun m kept => ?_⟩
  by_cases same : n = m
  · subst same
    rw [State.cad_setCad_same]
    exact ends kept
  · rwa [State.cad_setCad_other _ _ _ _ same]

theorem foldl {α : Type} {f : State → α → State} (each : ∀ s a, EndsKept s (f s a)) (l : List α) :
    ∀ s, EndsKept s (l.foldl f s) := by
  induction l with
  | nil => exact refl
  | cons a l ih => exact fun s => (each s a).trans (ih _)

end EndsKept

/-! ### Frames that finish -/

theorem endsKept_post (s : State) (a : Addr) (b : List Byte) : EndsKept s (s.post a b) := by
  unfold State.post
  split
  · exact .refl s
  · exact .of_same rfl rfl

theorem endsKept_finish (s : State) (i : Fin 40) (d : DoneRecord) (o : Nat) (b : List Byte) :
    EndsKept s (s.finish i d o b) := by
  cases slot : s.slot i with
  | none =>
    rw [finish_none _ _ _ _ _ slot]
    exact .refl s
  | some x =>
    rw [finish_eq _ _ _ _ _ _ slot]
    exact .of_same rfl rfl

/-! ### The ends of contexts (R39, R41, R43, R77) -/

theorem endsKept_toIdle (s : State) (i : CtxId) : EndsKept s (s.toIdle i) := .setCtx s i fun _ => .inl rfl

theorem ends_toIdle (s : State) (i : CtxId) : ((s.toIdle i).ctx i).Ends := by
  unfold State.toIdle
  rw [State.ctx_setCtx_same]
  exact .inl rfl

theorem endsKept_setIntake (s : State) (f : Intake → Intake) : EndsKept s (s.setIntake f) := .of_same rfl rfl

theorem endsKept_dropHold (s : State) (i : CtxId) : EndsKept s (s.dropHold i) := .of_same rfl rfl

/-- A cadence that reaches IDLE has ended (R105). -/
theorem endsKept_cadenceIdle (s : State) (n : Fin 8) :
    EndsKept s (s.cadenceIdle n) ∧ ((s.cadenceIdle n).cad n).Ends := by
  have finished : EndsKept (s.setCad n { s.cad n with state := .idle, trigger := none, owed := false }) (s.cadenceIdle n) :=
    (endsKept_dropHold _ (contextOf n)).trans (endsKept_finish ..)
  refine ⟨(EndsKept.setCad s n fun _ => .inl rfl).trans finished, finished.cadences n ?_⟩
  rw [State.cad_setCad_same]
  exact .inl rfl

/-- The end of a run returns only a RUNNING cadence to WAITING, which had not ended (R96). -/
theorem endsKept_reportRun (s : State) (n : Fin 8) : EndsKept s (s.reportRun n) := by
  unfold State.reportRun
  dsimp only
  split
  · rename_i running
    exact .setCad s n fun ends => by simp [Cadence.Ends, running] at ends
  · exact (endsKept_cadenceIdle s n).1
  · exact .refl s

/-- A context that ends on its cancel flag is IDLE (R43). -/
theorem endsKept_endCancelled (s : State) (i : CtxId) :
    EndsKept s (s.endCancelled i) ∧ ((s.endCancelled i).ctx i).Ends := by
  have idles : ∀ {u}, EndsKept s u → EndsKept s (u.toIdle i) ∧ ((u.toIdle i).ctx i).Ends := fun {u} kept =>
    ⟨kept.trans (endsKept_toIdle u i), ends_toIdle u i⟩
  unfold State.endCancelled
  split
  · unfold State.endCadenceRun
    split
    · rename_i n _
      exact ⟨(endsKept_toIdle s i).trans (endsKept_reportRun _ n), (endsKept_reportRun _ n).contexts i (ends_toIdle s i)⟩
    · exact idles (.refl s)
  · exact idles ((endsKept_finish s ..).trans (endsKept_dropHold _ i))
  · exact idles (endsKept_finish s ..)
  · exact idles ((endsKept_post s ..).trans (endsKept_finish ..))
  · exact idles (.refl s)

theorem endsKept_flagCancel (s : State) (i : CtxId) (cause : CancelCause) :
    EndsKept s (s.flagCancel i cause) ∧ ((s.flagCancel i cause).ctx i).Ends := by
  have flagged : ({ s.ctx i with cancel := (s.ctx i).cancel.or (some cause) } : Context).Ends := .inr (by simp)
  refine ⟨.setCtx s i fun _ => flagged, ?_⟩
  unfold State.flagCancel
  rwa [State.ctx_setCtx_same]

/-- A context that is asked to cancel is IDLE, flagged, or ends at once (R42, R43). -/
theorem endsKept_cancelCtx (s : State) (i : CtxId) (cause : CancelCause) :
    EndsKept s (s.cancelCtx i cause) ∧ ((s.cancelCtx i cause).ctx i).Ends := by
  obtain ⟨flags, flagged⟩ := endsKept_flagCancel s i cause
  obtain ⟨cancels, cancelled⟩ := endsKept_endCancelled (s.flagCancel i cause) i
  unfold State.cancelCtx
  dsimp only
  split_ifs with ends awaiting
  · exact ⟨.refl s, ends⟩
  · exact ⟨flags, flagged⟩
  · exact ⟨flags.trans cancels, cancelled⟩

/-- A cadence that is asked to stop is IDLE or STOPPING (R103). -/
theorem endsKept_cadenceStop (s : State) (n : Fin 8) (r : StopReason) :
    EndsKept s (s.cadenceStop n r) ∧ ((s.cadenceStop n r).cad n).Ends := by
  unfold State.cadenceStop
  dsimp only
  split
  · have idles := endsKept_cadenceIdle (s.setCad n { s.cad n with reason := r }) n
    exact ⟨(EndsKept.setCad s n (k := { s.cad n with reason := r }) id).trans idles.1, idles.2⟩
  · have cancels := endsKept_cancelCtx (s.setCad n { s.cad n with state := .stopping, reason := r }) (contextOf n) .stop
    refine ⟨(EndsKept.setCad s n fun _ => .inr rfl).trans cancels.1, cancels.1.cadences n ?_⟩
    rw [State.cad_setCad_same]
    exact .inr rfl
  · rename_i up down
    refine ⟨.refl s, ?_⟩
    cases state : (s.cad n).state with
    | idle => exact .inl state
    | stopping => exact .inr state
    | waiting => exact absurd state up
    | running => exact absurd state down

/-! ### One after the other (R161) -/

theorem endsKept_quiesceOne (s : State) (x : Quiescing) : EndsKept s (s.quiesceOne x) := by
  cases x with
  | pending =>
    unfold State.quiesceOne
    dsimp only
    split
    · exact .refl s
    · exact (endsKept_setIntake s _).trans (endsKept_finish ..)
  | context i => exact (endsKept_cancelCtx s i .quiesce).1
  | cadence n => exact (endsKept_cadenceStop s n .quiesced).1

/-- What one of them brings to its end has come to it behind them all. -/
theorem ends_of_mem {P : State → Prop} {x : Quiescing} {l : List Quiescing} (keeps : ∀ {s t}, EndsKept s t → P s → P t)
    (does : ∀ s : State, P (s.quiesceOne x)) (mem : x ∈ l) (s : State) : P (l.foldl State.quiesceOne s) := by
  obtain ⟨before, behind, rfl⟩ := List.append_of_mem mem
  rw [List.foldl_append, List.foldl_cons]
  exact keeps (.foldl endsKept_quiesceOne behind _) (does _)

/-- Each entry taken off the pending list is its head; nothing else touches the list. -/
theorem pendingList_foldl_quiesceOne (l : List Quiescing) : ∀ s : State,
    (l.foldl State.quiesceOne s).intake.pendingList = s.intake.pendingList.drop (l.count .pending) := by
  induction l with
  | nil => exact fun s => rfl
  | cons x l ih =>
    intro s
    rw [List.foldl_cons, ih]
    cases x with
    | pending =>
      rw [List.count_cons_self, Nat.add_comm, ← List.drop_drop]
      congr 1
      unfold State.quiesceOne
      dsimp only
      split
      · rename_i none
        rw [none, List.drop_nil]
      · rename_i i rest more
        rw [((Carries.refl _).refuse i _).pendingList, more]
        rfl
    | context i =>
      rw [List.count_cons_of_ne (show Quiescing.context i ≠ .pending from nofun)]
      exact congrArg (List.drop _) ((Carries.refl s).cancelCtx i .quiesce).pendingList
    | cadence n =>
      rw [List.count_cons_of_ne (show Quiescing.cadence n ≠ .pending from nofun)]
      exact congrArg (List.drop _) ((Carries.refl s).cadenceStop n .quiesced).pendingList

/-- What carries over, but for the pending list, which is left aside on both sides. -/
theorem Carries.emptied (carries : Carries s t) : Carries s.emptied t.emptied := { carries with pendingList := rfl }

theorem emptied_of_none (none : s.intake.pendingList = []) : s.emptied = s := by
  unfold State.emptied State.setIntake
  rw [← none]

theorem carries_quiesceOne (s : State) (x : Quiescing) : Carries s.emptied (s.quiesceOne x).emptied := by
  cases x with
  | pending =>
    unfold State.quiesceOne
    dsimp only
    split
    · exact .refl _
    · rename_i i rest _
      exact ((Carries.refl (s.setIntake fun x => { x with pendingList := rest })).refuse i .quiesced).emptied
  | context i => exact ((Carries.refl s).cancelCtx i .quiesce).emptied
  | cadence n => exact ((Carries.refl s).cadenceStop n .quiesced).emptied

theorem carries_foldl_quiesceOne (l : List Quiescing) :
    ∀ s : State, Carries s.emptied (l.foldl State.quiesceOne s).emptied := by
  induction l with
  | nil => exact fun s => .refl _
  | cons x l ih => exact fun s => (carries_quiesceOne s x).trans (ih _)

/-! ### All that a QUIESCE stops -/

theorem count_toQuiesce (s : State) : s.toQuiesce.count .pending = s.intake.pendingList.length := by
  unfold State.toQuiesce
  rw [List.count_append, List.count_append, List.map_const', List.count_replicate_self,
    List.count_eq_zero_of_not_mem (l := List.map _ _) (by simp), List.count_eq_zero_of_not_mem (l := List.map _ _) (by simp)]
  rfl

theorem context_mem_toQuiesce {i : CtxId} (request : i = ctxA ∨ i = ctxB) (busy : (s.ctx i).state ≠ .idle) :
    .context i ∈ s.toQuiesce := by
  simp [State.toQuiesce, request, busy]

theorem cadence_mem_toQuiesce {n : Fin 8} (busy : (s.cad n).state ≠ .idle) : .cadence n ∈ s.toQuiesce := by
  have all : n ∈ (List.range 8).map (Fin.ofNat 8) := List.mem_map.2 ⟨n, List.mem_range.2 n.isLt, by simp⟩
  exact List.mem_append_right _ (List.mem_map_of_mem (List.mem_filter.2 ⟨all, by simpa using busy⟩))

/-! ### The end of the event (R162) -/

/-- What the QUIESCE does to the taker: one that is not looking is not looking (R142). -/
theorem takerQuiesce_eq (s : State) : ∃ x, s.takerQuiesce = s.setIntake (fun y => { y with taker := x }) ∧
    (s.intake.taker ≠ .looking → x ≠ .looking) := by
  unfold State.takerQuiesce
  split
  · exact ⟨.idle, rfl, fun _ => nofun⟩
  · exact ⟨s.intake.taker, rfl, id⟩

/-- A QUIESCE that reaches its end stops the engine and the loop together; one that does not leaves both. -/
theorem settleIntake_stops (before : State) (quiescing : s.engine.state = .quiescing) :
    (s.settleIntake before).engine = s.engine ∨
      (s.settleIntake before).engine = { s.engine with state := .stopped } ∧ (s.settleIntake before).loop = s.loop.stop := by
  have active : s.active = true := by simp [State.active, quiescing]
  obtain ⟨-, engine, loop⟩ := Wakes.begun s before active
  unfold State.settleIntake State.completeQuiesce
  rw [if_pos active]
  split
  · exact .inr ⟨congrArg (fun e : Engine => { e with state := .stopped }) engine, congrArg LoopPort.stop loop⟩
  · exact .inl engine

/-- With nothing in custody, nothing removed and no lock held it reaches its end at once. -/
theorem settleIntake_stopped (before : State) (quiescing : s.engine.state = .quiescing) (empty : ∀ i, s.slot i = none)
    (taker : s.intake.taker ≠ .looking) (notice : s.notice.removing = false) (lock : s.queues.lock = none) :
    (s.settleIntake before).engine.state = .stopped := by
  have active : s.active = true := by simp [State.active, quiescing]
  obtain ⟨wakes, engine, -⟩ := Wakes.begun s before active
  unfold State.settleIntake State.completeQuiesce
  rw [if_pos active, if_pos]
  · rfl
  have places : ∀ (k : Nat) (near : k < 40), s.intake.custody[k] = none := fun k near => empty ⟨k, near⟩
  have custody : s.intake.custody.toList.all Option.isNone = true := by simpa using places
  have removing := wakes.notice.resolve_right fun ⟨able, _⟩ => by simp [State.noticeAble, quiescing] at able
  have looks : s.takerMay = false := by simp [State.takerMay, quiescing]
  have now : s.takerNow ≠ .looking := by
    unfold State.takerNow
    rw [quiescing]
    split
    · exact nofun
    · exact taker
  have rests := (wakes.taker.resolve_left fun ⟨may, _⟩ => by simp [looks] at may).1
  simp only [State.quiesced, engine, quiescing, wakes.custody, custody, removing, notice, wakes.lock, lock]
  rcases rests with same | ⟨-, idle⟩
  · simp [same, now]
  · simp [idle]

/-- Tables that agree have the same slots free. -/
theorem slot_none_of_tables (same : t.tables = s.tables) {i : Fin 40} (free : s.slot i = none) : t.slot i = none := by
  have frames : (t.slot i).map Slot.index = (s.slot i).map Slot.index := by
    simpa [State.tables, State.slot] using congrArg (fun x : Tables => x.frames[i]) same
  rw [free] at frames
  exact Option.map_eq_none_iff.1 frames

/-! ### The QUIESCE taken in RUNNING -/

/-- The state in which a QUIESCE finds what it stops: the engine QUIESCING, an ASLEEP or BLOCKED taker IDLE (R142, R161). -/
def State.quiesceBegun (s : State) : State := ({ s with engine := { s.engine with state := .quiescing } } : State).takerQuiesce

/-- The state with all of it stopped (R161). -/
def State.quiesceTaken (s : State) : State :=
  (freeOrder s.quiesceBegun s.quiesceBegun.toQuiesce).foldl State.quiesceOne (s.quiesceBegun.chose s.quiesceBegun.toQuiesce)

theorem quiesce_eq (running : s.engine.state = .running) : s.quiesce = s.quiesceTaken.settleIntake s := if_pos running

theorem quiesce_off (off : s.engine.state ≠ .running) : s.quiesce = s := if_neg off

theorem pendingList_quiesceTaken (s : State) : s.quiesceTaken.intake.pendingList = [] := by
  unfold State.quiesceTaken
  rw [pendingList_foldl_quiesceOne, (freeOrder_perm _ _).count_eq, count_toQuiesce]
  exact List.drop_length

/-- Everything that carries over to the state with all of it stopped. -/
theorem carries_quiesceTaken (s : State) : ∃ x choices, (s.intake.taker ≠ .looking → x ≠ .looking) ∧
    Carries { s with
      engine := { s.engine with state := .quiescing }, intake := { s.intake with taker := x, pendingList := [] }, choices }
      s.quiesceTaken := by
  obtain ⟨x, begun, looks⟩ := takerQuiesce_eq { s with engine := { s.engine with state := .quiescing } }
  have carries := carries_foldl_quiesceOne (freeOrder s.quiesceBegun s.quiesceBegun.toQuiesce)
    (s.quiesceBegun.chose s.quiesceBegun.toQuiesce)
  have start : (s.quiesceBegun.chose s.quiesceBegun.toQuiesce).emptied = { s with
      engine := { s.engine with state := .quiescing }, intake := { s.intake with taker := x, pendingList := [] },
      choices := (s.quiesceBegun.chose s.quiesceBegun.toQuiesce).choices } := by
    rw [show s.quiesceBegun = _ from begun]
    rfl
  rw [start] at carries
  exact ⟨x, _, looks, emptied_of_none (pendingList_quiesceTaken s) ▸ carries⟩

theorem tables_quiesceTaken (s : State) : s.quiesceTaken.tables = s.tables :=
  (tables_foldl _ _ tables_quiesceOne _).trans ((tables_takerQuiesce _).trans rfl)

theorem ends_context_quiesceTaken (s : State) {i : CtxId} (request : i = ctxA ∨ i = ctxB) : (s.quiesceTaken.ctx i).Ends := by
  by_cases idle : (s.quiesceBegun.ctx i).state = .idle
  · exact (EndsKept.foldl endsKept_quiesceOne _ (s.quiesceBegun.chose _)).contexts i (.inl idle)
  · exact ends_of_mem (x := .context i) (P := fun s => (s.ctx i).Ends) (fun kept => kept.contexts i)
      (fun s => (endsKept_cancelCtx s i .quiesce).2) ((freeOrder_perm _ _).mem_iff.2 (context_mem_toQuiesce request idle)) _

theorem ends_cadence_quiesceTaken (s : State) (n : Fin 8) : (s.quiesceTaken.cad n).Ends := by
  by_cases idle : (s.quiesceBegun.cad n).state = .idle
  · exact (EndsKept.foldl endsKept_quiesceOne _ (s.quiesceBegun.chose _)).cadences n (.inl idle)
  · exact ends_of_mem (x := .cadence n) (P := fun s => (s.cad n).Ends) (fun kept => kept.cadences n)
      (fun s => (endsKept_cadenceStop s n .quiesced).2) ((freeOrder_perm _ _).mem_iff.2 (cadence_mem_toQuiesce idle)) _

theorem exec_quiesce (answers : s.windowAnswers = true) : exec .quiesce s = .next s.quiesce :=
  congrArg Host.Outcome.next (registerWrite_command answers 2)

end Sys2Proof.Machine

section
open Sys2Proof Sys2Proof.Machine

/-- Settles O20: all that a QUIESCE stops has come to its end in `State.quiesceTaken`, and the end of the event keeps it. -/
theorem quiesceStopsWork : Obligations.QuiesceStopsWork := by
  intro s answers
  rw [exec_quiesce answers]
  refine ⟨fun off => congrArg _ (quiesce_off off), fun running => ⟨_, rfl, ?_⟩⟩
  obtain ⟨x, choices, looks, carries⟩ := carries_quiesceTaken s
  have quiescing : s.quiesceTaken.engine.state = .quiescing := congrArg Engine.state carries.engine
  have wakes := Wakes.settleIntake s.quiesceTaken s
  have ctx : ∀ i, (s.quiesceTaken.settleIntake s).ctx i = s.quiesceTaken.ctx i := fun i => by
    simp only [State.ctx, wakes.contexts]
  have cad : ∀ n, (s.quiesceTaken.settleIntake s).cad n = s.quiesceTaken.cad n := fun n => by
    simp only [State.cad, wakes.cadences]
  rw [quiesce_eq running]
  refine ⟨?_, wakes.pendingList.trans (pendingList_quiesceTaken s), fun i request => ?_, fun n => ?_,
    (congrArg Store.steps wakes.store).trans carries.steps, (congrArg Store.load wakes.store).trans carries.load,
    wakes.stations.trans carries.stations, wakes.attention.trans carries.attention,
    wakes.lock.trans (congrArg QueueUnit.lock carries.queues), wakes.pins.trans carries.pins,
    wakes.pending.trans carries.pending, fun empty taker notice lock => ?_⟩
  · refine (settleIntake_stops s quiescing).imp (·.trans carries.engine) fun ⟨engine, loop⟩ =>
      ⟨engine.trans ?_, loop.trans ?_⟩
    · exact congrArg (fun e : Engine => { e with state := .stopped }) carries.engine
    · exact congrArg LoopPort.stop carries.loop
  · rw [ctx]
    exact ends_context_quiesceTaken s request
  · rw [cad]
    exact ends_cadence_quiesceTaken s n
  · refine settleIntake_stopped s quiescing (fun i => slot_none_of_tables (tables_quiesceTaken s) (empty i)) ?_
      ((congrArg NoticeEngine.removing carries.notice).trans notice) ((congrArg QueueUnit.lock carries.queues).trans lock)
    rw [show s.quiesceTaken.intake.taker = x from carries.taker]
    exact looks taker

end
end

section
/-! QUERY: its checks in their order, the records and reports of its four subjects, and the counters that LOOP clears (R172 to
R178). -/

namespace Sys2Proof.Machine

open Sys2Proof

variable {s : State} {i : Fin 40} {b : Body}

/-! ### The records (R174, R177) -/

/-- The record of a STATIONS query for the station at a place of the table (R174). -/
def State.stationRecord (s : State) (x : Station × Nat) : List Byte := x.1.queryBytes (entryCode s.attention (x.2 + 1))

/-- The 40 records of a STATIONS query (R174). -/
def State.stationRecords (s : State) : List Byte := s.stations.toList.zipIdx.flatMap s.stationRecord

/-- The 8 records of a CADENCES query (R177). -/
def State.cadenceRecords (s : State) : List Byte := s.cadences.toList.flatMap Cadence.queryBytes

theorem le32_length (w : Word) : (le32 w).length = 4 := le_length 4 _

theorem zeros_length (n : Nat) : (zeros n).length = n := List.length_replicate

theorem State.stationRecord_length (s : State) (x : Station × Nat) : (s.stationRecord x).length = 8 := by
  simp only [State.stationRecord, Station.queryBytes, List.length_append, le_length, le32_length, zeros_length]

theorem Cadence.queryBytes_length (x : Cadence) : x.queryBytes.length = 80 := by
  unfold Cadence.queryBytes
  simp only [List.length_append, le_length, le32_length, zeros_length]

theorem stationRecords_length (s : State) : s.stationRecords.length = 320 := by
  simp [State.stationRecords, flatMap_length s.stationRecord_length]

theorem stationRecords_record (s : State) (p : Fin 40) : (s.stationRecords.drop (8 * p.val)).take 8 =
    s.stations[p].queryBytes (entryCode s.attention (p.val + 1)) := by
  unfold State.stationRecords
  rw [flatMap_record s.stationRecord_length _ p.val (by simp [p.isLt])]
  simp [State.stationRecord]

theorem cadenceRecords_length (s : State) : s.cadenceRecords.length = 640 := by
  simp [State.cadenceRecords, flatMap_length Cadence.queryBytes_length]

theorem cadenceRecords_record (s : State) (n : Fin 8) : (s.cadenceRecords.drop (80 * n.val)).take 80 = (s.cad n).queryBytes := by
  unfold State.cadenceRecords
  rw [flatMap_record Cadence.queryBytes_length _ n.val (by simp [n.isLt])]
  simp [State.cad]

/-! ### The answers (R173) -/

/-- Posted records are one write issued (log entry 21). -/
theorem post_records (a : Addr) {records : List Byte} {n : Nat} (length : records.length = n + 1) :
    s.post a records = s.issueAll [.write a records] :=
  post_eq s a (List.ne_nil_of_length_eq_add_one length)

theorem answerStations_eq : s.answerStations i b = (s.issueAll [.write (u64 b 0x00) s.stationRecords]).finish i
    { result := 0, countA := BitVec.ofNat 32 (s.stations.toList.filter fun v => v.state == .present).length,
      countB := BitVec.ofNat 32 s.attention.length } := by
  rw [← post_records _ (stationRecords_length s)]
  rfl

theorem answerCadences_eq : s.answerCadences i b = (s.issueAll [.write (u64 b 0x00) s.cadenceRecords]).finish i
    { result := 0, countA := BitVec.ofNat 32 (s.cadences.toList.filter fun v => v.state != .idle).length,
      countB := BitVec.ofNat 32 (s.cadences.toList.filter fun v => v.owed).length } := by
  rw [← post_records _ (cadenceRecords_length s)]
  rfl

/-- The state with the eight counters cleared when a LOOP query's flag asks for it (R176). -/
def State.statsCleared (s : State) (b : Body) : State :=
  { s with loop := { s.loop with stats := if u8 b 0x0D = 1 then Stats.zero else s.loop.stats } }

/-- The report is made of the state before the counters are cleared (R175, R176). -/
theorem answerLoop_eq : s.answerLoop i b = (s.statsCleared b).finish i
    { result := 0, countA := s.engine.timeBase, countB := s.loop.stats.recoveries } 0 (s.loopReport (u8 b 0x0D == 1)) := by
  have cleared : (if u8 b 0x0D == 1 then s.count fun _ => Stats.zero else s) = s.statsCleared b := by
    unfold State.statsCleared
    by_cases clear : u8 b 0x0D = 1
    · rw [if_pos (beq_iff_eq.2 clear), if_pos clear]; rfl
    · rw [if_neg (mt beq_iff_eq.1 clear), if_neg clear]
  exact congrArg (fun u : State => u.finish i _ 0 _) cleared

/-! ### The checks past the fields (R172, R173) -/

theorem queryBuffered_iff (b : Body) : queryBuffered b = true ↔ u8 b 0x0C = 1 ∨ u8 b 0x0C = 3 := by
  simp [queryBuffered, querySubject]

section
variable (fields : queryFieldsOk b = true)
include fields

theorem doQuery_badAddress (buffered : queryBuffered b = true)
    (window : s.inWindow true (u64 b 0x00) (u32 b 0x08).toNat = false) : s.doQuery i b = s.finish i { result := 3 } := by
  simp [State.doQuery, fields, buffered, window, State.refuse, Result.code]

theorem doQuery_shortBuffer (buffered : queryBuffered b = true)
    (window : s.inWindow true (u64 b 0x00) (u32 b 0x08).toNat = true) (short : (u32 b 0x08).toNat < queryNeeds b) :
    s.doQuery i b = s.finish i { result := 4, countA := BitVec.ofNat 32 (queryNeeds b) } := by
  simp [State.doQuery, fields, buffered, window, short, Result.code]

theorem doQuery_stations (subject : querySubject b = stationsSubject)
    (window : s.inWindow true (u64 b 0x00) (u32 b 0x08).toNat = true) (long : 320 ≤ (u32 b 0x08).toNat) :
    s.doQuery i b = s.answerStations i b := by
  simp [State.doQuery, fields, window, queryNeeds, subject, long]

theorem doQuery_cadences (subject : querySubject b = cadencesSubject)
    (window : s.inWindow true (u64 b 0x00) (u32 b 0x08).toNat = true) (long : 640 ≤ (u32 b 0x08).toNat) :
    s.doQuery i b = s.answerCadences i b := by
  simp [State.doQuery, fields, window, queryNeeds, subject, long]

theorem doQuery_loop (subject : querySubject b = loopSubject) : s.doQuery i b = s.answerLoop i b := by
  simp [State.doQuery, fields, queryBuffered, subject]

theorem doQuery_holds (subject : querySubject b = holdsSubject) : s.doQuery i b = s.answerHolds i := by
  simp [State.doQuery, fields, queryBuffered, subject]

end

/-- A QUERY, which reaches neither a context nor the Loop Port, finishes its frame from a state that differs in its own slot
alone from one that is known (R144, R152). -/
theorem query_finishes {v : State} {c : Instr} {acc : Nat} {tag : BitVec 64} {x : Slot} {d : DoneRecord} {o : Nat}
    {bytes : List Byte} (request : IsRequest c acc { kind := 11, tag, body := b }) (live : s.live = true)
    (taken : s.takenBy acc = some i) (slot : s.slot i = some x)
    (effect : (s.setSlot i (some (x.kept 11 tag b))).doQuery i b = (v.setSlot i (some (x.kept 11 tag b))).finish i d o bytes) :
    ∃ t, exec c s = .next t ∧ Wakes (v.finished i (x.kept 11 tag b) d o bytes) t := by
  refine dispatch_wakes request live taken slot (effect.trans ?_) fun reaches => absurd reaches (by decide)
  rw [finish_eq _ _ _ _ _ _ (State.slot_setSlot_same ..), State.finished_setSlot]

end Sys2Proof.Machine

section
open Sys2Proof Sys2Proof.Machine

/-- Settles O45: each subject passes its checks to its answer, which is one frame finished behind the records it writes, and
LOOP alone changes the counters. -/
theorem queriesAnswer : Obligations.QueriesAnswer := by
  intro s acc tag b i x live taken slot fields y buffer room
  refine ⟨fun c need row subject => ?_, fun subject window long => ?_, fun subject window long => ?_, fun subject => ?_,
    fun subject => ?_⟩
  · have refused : IsRequest c acc { kind := 11, tag, body := b } ∧ queryBuffered b = true ∧ queryNeeds b = need := by
      simp only [List.mem_cons, Prod.mk.injEq, List.not_mem_nil, or_false] at row
      rcases row with ⟨rfl, rfl⟩ | ⟨rfl, rfl⟩
      · exact ⟨fun _ => rfl, (queryBuffered_iff b).2 (.inl subject), if_pos subject⟩
      · have cadences : querySubject b = cadencesSubject := subject
        exact ⟨fun _ => rfl, (queryBuffered_iff b).2 (.inr subject), by simp [queryNeeds, cadences]⟩
    obtain ⟨request, buffered, rfl⟩ := refused
    exact ⟨fun window => query_finishes request live taken slot (doQuery_badAddress fields buffered window),
      fun window short => query_finishes request live taken slot (doQuery_shortBuffer fields buffered window short)⟩
  · obtain ⟨t, run, wakes⟩ := query_finishes (c := .queryStations acc tag b)
      (v := s.issueAll [.write buffer s.stationRecords]) (fun _ => rfl) live taken slot
      ((doQuery_stations (s := s.setSlot i (some y)) fields subject window long).trans answerStations_eq)
    exact ⟨t, _, run, stationRecords_length s, stationRecords_record s, wakes⟩
  · obtain ⟨t, run, wakes⟩ := query_finishes (c := .queryCadences acc tag b)
      (v := s.issueAll [.write buffer s.cadenceRecords]) (fun _ => rfl) live taken slot
      ((doQuery_cadences (s := s.setSlot i (some y)) fields subject window long).trans answerCadences_eq)
    exact ⟨t, _, run, cadenceRecords_length s, cadenceRecords_record s, wakes⟩
  · exact query_finishes (c := .queryLoop acc tag b) (v := s.statsCleared b) (fun _ => rfl) live taken slot
      ((doQuery_loop (s := s.setSlot i (some y)) fields subject).trans answerLoop_eq)
  · exact query_finishes (c := .queryHolds acc tag b) (v := s) (fun _ => rfl) live taken slot (doQuery_holds fields subject)

end
end

section
/-! The loop frame on the line: a word spelled bit by bit is read back, the receiver assembles the 80 bits behind a
delimiter, and a control word gives back the fields it was built from (R182, section 11.11). -/

namespace Sys2Proof.Machine

open Sys2Proof

/-! ### A field in transmitted order -/

@[simp] theorem bitsOf_length {w : Nat} (b : BitVec w) : (bitsOf b).length = w := by simp [bitsOf]

/-- One bit more of a number spelled most significant bit first. -/
theorem numberOf_concat (l : List Bool) (x : Bool) : numberOf (l ++ [x]) = 2 * numberOf l + bit x := by simp [numberOf]

/-- A number down to its bit `i` is the number above that bit, doubled, and the bit. -/
theorem two_mul_add_bit_testBit (n i : Nat) : 2 * (n / 2 ^ (i + 1)) + bit (n.testBit i) = n / 2 ^ i := by
  have bitValue : bit (n.testBit i) = n / 2 ^ i % 2 := by
    rcases Nat.mod_two_eq_zero_or_one (n / 2 ^ i) with h | h <;> simp [bit, Nat.testBit_eq_decide_div_mod_eq, h]
  rw [bitValue, pow_succ, ← Nat.div_div_eq_div_mul]
  omega

/-- The first `k` bits of a field spell its `k` highest bits. -/
theorem numberOf_highBits {w : Nat} (b : BitVec w) {k : Nat} (within : k ≤ w) :
    numberOf ((List.range k).map fun i => b.getMsbD i) = b.toNat / 2 ^ (w - k) := by
  induction k with
  | zero => simp [numberOf, Nat.div_eq_of_lt b.isLt]
  | succ k ih =>
    have next : b.getMsbD k = b.toNat.testBit (w - (k + 1)) := by
      rw [BitVec.getMsbD, decide_eq_true (by omega), Bool.true_and, BitVec.getLsbD, Nat.add_comm k 1, Nat.sub_sub]
    rw [List.range_succ, List.map_append, List.map_singleton, numberOf_concat, ih (by omega), next,
      show w - k = w - (k + 1) + 1 by omega, two_mul_add_bit_testBit]

/-- A field is the number that its bits in transmitted order spell. -/
@[simp] theorem numberOf_bitsOf {w : Nat} (b : BitVec w) : numberOf (bitsOf b) = b.toNat := by
  rw [bitsOf, numberOf_highBits b le_rfl, Nat.sub_self, pow_zero, Nat.div_one]

/-- The 80 bits behind a delimiter are read as the three words that they spell (R182). -/
theorem receivedBits_bitsOf (control data : Word) (check : BitVec 16) :
    receivedBits (bitsOf control ++ (bitsOf data ++ bitsOf check)) = received control data check := by
  have rest : (bitsOf control ++ (bitsOf data ++ bitsOf check)).drop 32 = bitsOf data ++ bitsOf check :=
    List.drop_left' (bitsOf_length control)
  have last : (bitsOf control ++ (bitsOf data ++ bitsOf check)).drop 64 = bitsOf check := by
    rw [← List.append_assoc]
    exact List.drop_left' (by simp)
  rw [receivedBits, rest, last, List.take_left' (bitsOf_length control), List.take_left' (bitsOf_length data)]
  simp

/-! ### The receiver over a run of bits -/

/-- The receiver takes two runs of bits one after the other. -/
theorem Framing.receive_append (f : Framing) (l m : List Bool) :
    f.receive (l ++ m) =
      (((f.receive l).1.receive m).1, (f.receive l).2 ++ ((f.receive l).1.receive m).2) := by
  induction l generalizing f with
  | nil => rfl
  | cons x l ih => simp only [List.cons_append, Framing.receive, ih, List.append_assoc]

/-- Between frames a delimiter opens a frame, and nothing is handed on (R182). -/
theorem Framing.receive_delimiter (one : Bool) :
    Framing.receive (.between one) (bitsOf delimiter) = (.inside [] 80, []) := by
  revert one; decide

/-- Inside a frame the bits still to come complete it, and the receiver hands on the command that they make with the bits
seen (R182). -/
theorem Framing.receive_inside (seen l : List Bool) (x : Bool) :
    Framing.receive (.inside seen (l.length + 1)) (x :: l) = (.between false, [receivedBits (seen.reverse ++ x :: l)]) := by
  induction l generalizing seen x with
  | nil => rfl
  | cons y l ih =>
    have step : Framing.next (.inside seen ((y :: l).length + 1)) x = (.inside (x :: seen) (l.length + 1), none) := by
      simp [Framing.next]
    rw [Framing.receive, step]
    simp [ih]

/-- A delimiter and any three words behind it are one frame, with a good check or a bad one (R182). -/
theorem Framing.receive_words (one : Bool) (control data : Word) (check : BitVec 16) :
    Framing.receive (.between one) (bitsOf delimiter ++ bitsOf control ++ bitsOf data ++ bitsOf check) =
      (.between false, [received control data check]) := by
  rw [List.append_assoc, List.append_assoc, Framing.receive_append, Framing.receive_delimiter, ← receivedBits_bitsOf]
  have long : (bitsOf control ++ (bitsOf data ++ bitsOf check)).length = 79 + 1 := by simp
  generalize bitsOf control ++ (bitsOf data ++ bitsOf check) = l at long
  obtain ⟨x, l, rfl⟩ := List.exists_cons_of_length_eq_add_one long
  have tail : l.length = 79 := Nat.succ.inj long
  simpa [tail] using Framing.receive_inside [] l x

/-! ### The control word -/

/-- The fields of a frame are read back from its control word at their offsets (section 11.11). -/
theorem LoopFrame.ofWords_control (f : LoopFrame) : LoopFrame.ofWords f.control f.data = f := by
  obtain ⟨type, sequence, station, opClass, register, width, ack, ready, data⟩ := f
  rw [LoopFrame.ofWords, LoopFrame.mk.injEq]
  dsimp only [LoopFrame.control]
  refine ⟨?_, ?_, ?_, ?_, ?_, ?_, ?_, ?_, rfl⟩
  case refine_1 =>
    iterate 8 refine (BitVec.extractLsb'_append_eq_of_le (by decide)).trans ?_
    exact BitVec.extractLsb'_eq_self
  case refine_7 | refine_8 =>
    repeat refine BitVec.getLsbD_append.trans ((if_neg (by decide)).trans ?_)
    exact BitVec.getLsbD_append.trans ((if_pos (by decide)).trans (by simp))
  all_goals
    repeat refine (BitVec.extractLsb'_append_eq_of_le (by decide)).trans ?_
    exact BitVec.extractLsb'_append_eq_right

/-- The words of a frame, its own check with them, are received as the command that the frame is (R182). -/
theorem LoopFrame.received_words (f : LoopFrame) : received f.control f.data f.check = f.arrival := by
  rw [received, LoopFrame.check, if_pos rfl, LoopFrame.ofWords_control]

/-- Between frames the receiver hands a frame on as the command that it is (R182). -/
theorem Framing.receive_bits (one : Bool) (f : LoopFrame) :
    Framing.receive (.between one) f.bits = (.between false, [f.arrival]) := by
  rw [LoopFrame.bits, Framing.receive_words, LoopFrame.received_words]

end Sys2Proof.Machine

section
open Sys2Proof Sys2Proof.Machine

/-- Settles O11: a power-on and a frame each leave the receiver between frames, where `Framing.receive_bits` says what it
hands on. -/
theorem sentFrameIsReceived : Obligations.SentFrameIsReceived := by
  refine fun f => ⟨fun one => Framing.receive_bits one f, fun t run => ?_, fun s => ?_⟩
  · obtain rfl : State.reset.powerOn = t := Host.Outcome.next.inj run
    rw [powerOn_eq]
    exact Framing.receive_bits false f
  · rw [State.framed_loop]
    exact Framing.receive_bits false f

end
end

section
/-! The step on a queue that holds a command. -/

open Sys2Proof Sys2Proof.Machine

/-- Settles O1: `step` splits on the queue, and a front command is its second arm, which runs it by definition. -/
theorem stepRunsFrontCommand : Obligations.StepRunsFrontCommand := fun _ _ _ => rfl

end
